-- ==== Sys2Proof/Word.lean ====
section
/-! DEFINITION. The two word sizes of the machine (spec 00 R10): 8-bit data and 16-bit addresses. -/

namespace Sys2Proof

/-- A register, memory cell or port datum: 8 bits (R10). -/
abbrev Byte := BitVec 8

/-- An address, SP, PC or a register pair's value: 16 bits (R10, R33). -/
abbrev Word := BitVec 16

end Sys2Proof
end

