-- ==== Sys2Proof/Machine/Bits.lean ====
section
/-! DEFINITION. Bit-field and byte-order helpers shared by the decoder and the machine (spec 00 R12, R13). -/

namespace Sys2Proof.Machine

/-- `v[15:8]`, the high byte of a 16-bit value (R12). -/
def hiByte (v : Word) : Byte := v.extractLsb' 8 8

/-- `v[7:0]`, the low byte of a 16-bit value (R12). -/
def loByte (v : Word) : Byte := v.extractLsb' 0 8

/-- `(h : l)`, an 8-bit h above an 8-bit l (R13). -/
def wordOf (h l : Byte) : Word := h ++ l

/-- `popcount(v)`, the number of 1 bits in v (R13). -/
def popcount (v : Byte) : Nat := ((List.range 8).filter fun i => v.getLsbD i).length

end Sys2Proof.Machine
end

