-- ==== Sys2Proof/Syntax.lean ====
section
/-! DEFINITION. The instruction set as syntax: one constructor per row of spec/opcode_table.json, in the order of the
opcode map (spec 30 R104), the unimplemented rows last. A constructor is its row's mnemonic in lower camel case; an operand `d` is the row's
immediate (d8, d16 or a16; R92, R93), for `inPort` and `outPort` the port number. The twelve `unimplemented…` are the
byte values with no documented meaning (R105). -/

namespace Sys2Proof

inductive Instr where
  -- Quadrant 00 of the opcode map (R100).
  | nop | lxiB (d : Word) | staxB | inxB | inrB | dcrB | mviB (d : Byte) | rlc | dadB | ldaxB | dcxB | inrC
  | dcrC | mviC (d : Byte) | rrc | lxiD (d : Word) | staxD | inxD | inrD | dcrD | mviD (d : Byte) | ral
  | dadD | ldaxD | dcxD | inrE | dcrE | mviE (d : Byte) | rar | lxiH (d : Word) | shld (d : Word) | inxH
  | inrH | dcrH | mviH (d : Byte) | daa | dadH | lhld (d : Word) | dcxH | inrL | dcrL | mviL (d : Byte) | cma
  | lxiSP (d : Word) | sta (d : Word) | inxSP | inrM | dcrM | mviM (d : Byte) | stc | dadSP | lda (d : Word)
  | dcxSP | inrA | dcrA | mviA (d : Byte) | cmc
  -- Quadrant 01: MOV and HLT (R101).
  | movBB | movBC | movBD | movBE | movBH | movBL | movBM | movBA | movCB | movCC | movCD | movCE | movCH
  | movCL | movCM | movCA | movDB | movDC | movDD | movDE | movDH | movDL | movDM | movDA | movEB | movEC
  | movED | movEE | movEH | movEL | movEM | movEA | movHB | movHC | movHD | movHE | movHH | movHL | movHM
  | movHA | movLB | movLC | movLD | movLE | movLH | movLL | movLM | movLA | movMB | movMC | movMD | movME
  | movMH | movML | hlt | movMA | movAB | movAC | movAD | movAE | movAH | movAL | movAM | movAA
  -- Quadrant 10: the ALU group on a register or M (R102).
  | addB | addC | addD | addE | addH | addL | addM | addA | adcB | adcC | adcD | adcE | adcH | adcL | adcM
  | adcA | subB | subC | subD | subE | subH | subL | subM | subA | sbbB | sbbC | sbbD | sbbE | sbbH | sbbL
  | sbbM | sbbA | anaB | anaC | anaD | anaE | anaH | anaL | anaM | anaA | xraB | xraC | xraD | xraE | xraH
  | xraL | xraM | xraA | oraB | oraC | oraD | oraE | oraH | oraL | oraM | oraA | cmpB | cmpC | cmpD | cmpE
  | cmpH | cmpL | cmpM | cmpA
  -- Quadrant 11 (R103).
  | rnz | popB | jnz (d : Word) | jmp (d : Word) | cnz (d : Word) | pushB | adi (d : Byte) | rst0 | rz | ret
  | jz (d : Word) | cz (d : Word) | call (d : Word) | aci (d : Byte) | rst1 | rnc | popD | jnc (d : Word)
  | outPort (d : Byte) | cnc (d : Word) | pushD | sui (d : Byte) | rst2 | rc | jc (d : Word)
  | inPort (d : Byte) | cc (d : Word) | sbi (d : Byte) | rst3 | rpo | popH | jpo (d : Word) | xthl
  | cpo (d : Word) | pushH | ani (d : Byte) | rst4 | rpe | pchl | jpe (d : Word) | xchg | cpe (d : Word)
  | xri (d : Byte) | rst5 | rp | popPSW | jp (d : Word) | di | cp (d : Word) | pushPSW | ori (d : Byte)
  | rst6 | rm | sphl | jm (d : Word) | ei | cm (d : Word) | cpi (d : Byte) | rst7
  -- The twelve unimplemented byte values (R105).
  | unimplemented08 | unimplemented10 | unimplemented18 | unimplemented20 | unimplemented28 | unimplemented30
  | unimplemented38 | unimplementedCB | unimplementedD9 | unimplementedDD | unimplementedED | unimplementedFD
  deriving DecidableEq, Repr

end Sys2Proof
end

