-- ==== Sys2Proof/Decode.lean ====
section
/-! DEFINITION. The decoder and the encoder (spec 30). The opcode alone fixes the length (R90); the opcode map (R104)
has one instruction for each of the 256 byte values, so decoding refuses nothing but a list of bytes too short to
hold the instruction its first byte begins. -/

namespace Sys2Proof

open Sys2Proof.Machine (hiByte loByte wordOf)

/-- Why a list of bytes is no instruction (log 14). -/
inductive Reject where
  /-- There is no opcode byte. Safe: nothing is decoded. -/
  | noOpcode
  /-- The opcode's operand bytes are missing (R90, R92, R93). Safe: nothing is decoded. -/
  | missingOperand
  deriving DecidableEq, Repr

/-- The opcodes of format F2, two bytes (R92). -/
def formatF2 : List Byte :=
  [0x06, 0x0E, 0x16, 0x1E, 0x26, 0x2E, 0x36, 0x3E] ++ [0xC6, 0xCE, 0xD6, 0xDE, 0xE6, 0xEE, 0xF6, 0xFE] ++ [0xDB, 0xD3]

/-- The opcodes of format F3, three bytes (R93). -/
def formatF3 : List Byte :=
  [0x01, 0x11, 0x21, 0x31] ++ [0x3A, 0x32, 0x2A, 0x22] ++
  [0xC3, 0xC2, 0xCA, 0xD2, 0xDA, 0xE2, 0xEA, 0xF2, 0xFA] ++
  [0xCD, 0xC4, 0xCC, 0xD4, 0xDC, 0xE4, 0xEC, 0xF4, 0xFC]

/-- The instruction length an opcode fixes: 1, 2 or 3 bytes (R90). -/
def opLength (op : Byte) : Nat :=
  if formatF2.contains op then 2 else if formatF3.contains op then 3 else 1

/-- The twelve unimplemented byte values (R3, R105). -/
def unimplementedBytes : List Byte :=
  [0x08, 0x10, 0x18, 0x20, 0x28, 0x30, 0x38] ++ [0xCB, 0xD9, 0xDD, 0xED, 0xFD]

/-- Row 0x of the opcode map (R104). -/
def opcodeRow0 (d8 : Byte) (d16 : Word) : Vector Instr 16 :=
  #v[.nop, .lxiB d16, .staxB, .inxB, .inrB, .dcrB, .mviB d8, .rlc, .unimplemented08, .dadB, .ldaxB, .dcxB,
   .inrC, .dcrC, .mviC d8, .rrc]

/-- Row 1x of the opcode map (R104). -/
def opcodeRow1 (d8 : Byte) (d16 : Word) : Vector Instr 16 :=
  #v[.unimplemented10, .lxiD d16, .staxD, .inxD, .inrD, .dcrD, .mviD d8, .ral, .unimplemented18, .dadD,
   .ldaxD, .dcxD, .inrE, .dcrE, .mviE d8, .rar]

/-- Row 2x of the opcode map (R104). -/
def opcodeRow2 (d8 : Byte) (d16 : Word) : Vector Instr 16 :=
  #v[.unimplemented20, .lxiH d16, .shld d16, .inxH, .inrH, .dcrH, .mviH d8, .daa, .unimplemented28, .dadH,
   .lhld d16, .dcxH, .inrL, .dcrL, .mviL d8, .cma]

/-- Row 3x of the opcode map (R104). -/
def opcodeRow3 (d8 : Byte) (d16 : Word) : Vector Instr 16 :=
  #v[.unimplemented30, .lxiSP d16, .sta d16, .inxSP, .inrM, .dcrM, .mviM d8, .stc, .unimplemented38, .dadSP,
   .lda d16, .dcxSP, .inrA, .dcrA, .mviA d8, .cmc]

/-- Row 4x of the opcode map (R104). -/
def opcodeRow4 : Vector Instr 16 :=
  #v[.movBB, .movBC, .movBD, .movBE, .movBH, .movBL, .movBM, .movBA, .movCB, .movCC, .movCD, .movCE, .movCH,
   .movCL, .movCM, .movCA]

/-- Row 5x of the opcode map (R104). -/
def opcodeRow5 : Vector Instr 16 :=
  #v[.movDB, .movDC, .movDD, .movDE, .movDH, .movDL, .movDM, .movDA, .movEB, .movEC, .movED, .movEE, .movEH,
   .movEL, .movEM, .movEA]

/-- Row 6x of the opcode map (R104). -/
def opcodeRow6 : Vector Instr 16 :=
  #v[.movHB, .movHC, .movHD, .movHE, .movHH, .movHL, .movHM, .movHA, .movLB, .movLC, .movLD, .movLE, .movLH,
   .movLL, .movLM, .movLA]

/-- Row 7x of the opcode map (R104). -/
def opcodeRow7 : Vector Instr 16 :=
  #v[.movMB, .movMC, .movMD, .movME, .movMH, .movML, .hlt, .movMA, .movAB, .movAC, .movAD, .movAE, .movAH,
   .movAL, .movAM, .movAA]

/-- Row 8x of the opcode map (R104). -/
def opcodeRow8 : Vector Instr 16 :=
  #v[.addB, .addC, .addD, .addE, .addH, .addL, .addM, .addA, .adcB, .adcC, .adcD, .adcE, .adcH, .adcL,
   .adcM, .adcA]

/-- Row 9x of the opcode map (R104). -/
def opcodeRow9 : Vector Instr 16 :=
  #v[.subB, .subC, .subD, .subE, .subH, .subL, .subM, .subA, .sbbB, .sbbC, .sbbD, .sbbE, .sbbH, .sbbL,
   .sbbM, .sbbA]

/-- Row Ax of the opcode map (R104). -/
def opcodeRowA : Vector Instr 16 :=
  #v[.anaB, .anaC, .anaD, .anaE, .anaH, .anaL, .anaM, .anaA, .xraB, .xraC, .xraD, .xraE, .xraH, .xraL,
   .xraM, .xraA]

/-- Row Bx of the opcode map (R104). -/
def opcodeRowB : Vector Instr 16 :=
  #v[.oraB, .oraC, .oraD, .oraE, .oraH, .oraL, .oraM, .oraA, .cmpB, .cmpC, .cmpD, .cmpE, .cmpH, .cmpL,
   .cmpM, .cmpA]

/-- Row Cx of the opcode map (R104). -/
def opcodeRowC (d8 : Byte) (d16 : Word) : Vector Instr 16 :=
  #v[.rnz, .popB, .jnz d16, .jmp d16, .cnz d16, .pushB, .adi d8, .rst0, .rz, .ret, .jz d16,
   .unimplementedCB, .cz d16, .call d16, .aci d8, .rst1]

/-- Row Dx of the opcode map (R104). -/
def opcodeRowD (d8 : Byte) (d16 : Word) : Vector Instr 16 :=
  #v[.rnc, .popD, .jnc d16, .outPort d8, .cnc d16, .pushD, .sui d8, .rst2, .rc, .unimplementedD9, .jc d16,
   .inPort d8, .cc d16, .unimplementedDD, .sbi d8, .rst3]

/-- Row Ex of the opcode map (R104). -/
def opcodeRowE (d8 : Byte) (d16 : Word) : Vector Instr 16 :=
  #v[.rpo, .popH, .jpo d16, .xthl, .cpo d16, .pushH, .ani d8, .rst4, .rpe, .pchl, .jpe d16, .xchg, .cpe d16,
   .unimplementedED, .xri d8, .rst5]

/-- Row Fx of the opcode map (R104). -/
def opcodeRowF (d8 : Byte) (d16 : Word) : Vector Instr 16 :=
  #v[.rp, .popPSW, .jp d16, .di, .cp d16, .pushPSW, .ori d8, .rst6, .rm, .sphl, .jm d16, .ei, .cm d16,
   .unimplementedFD, .cpi d8, .rst7]

/-- The opcode map (R104), row by row, with `d8` and `d16` in the places of the immediates. -/
def opcodeMap (d8 : Byte) (d16 : Word) : Vector (Vector Instr 16) 16 :=
  #v[opcodeRow0 d8 d16, opcodeRow1 d8 d16, opcodeRow2 d8 d16, opcodeRow3 d8 d16,
     opcodeRow4, opcodeRow5, opcodeRow6, opcodeRow7,
     opcodeRow8, opcodeRow9, opcodeRowA, opcodeRowB,
     opcodeRowC d8 d16, opcodeRowD d8 d16, opcodeRowE d8 d16, opcodeRowF d8 d16]

/-- The instruction of an opcode byte and the immediates that follow it (R99, R107): row op[7:4], column op[3:0]. -/
def decodeOpcode (op d8 : Byte) (d16 : Word) : Instr :=
  ((opcodeMap d8 d16)[op.toNat / 16]'(by have := op.isLt; omega))[op.toNat % 16]'(by omega)

/-- Reads one instruction from the front of a list of bytes and answers it with the bytes after it. Byte 1 is imm8,
and bytes 1 and 2 are imm16, low byte first (R92, R93, R99). -/
def decode : List Byte → Except Reject (Instr × List Byte)
  | [] => .error .noOpcode
  | op :: rest =>
    if rest.length + 1 < opLength op then .error .missingOperand
    else .ok (decodeOpcode op (rest.getD 0 0) (wordOf (rest.getD 1 0) (rest.getD 0 0)), rest.drop (opLength op - 1))

/-- The bytes of an instruction word whose bits are numbered as spec/opcode_table.json numbers them: the first byte
is the least significant one; every bit from `nbits` up is 0. Three bytes, the longest instruction (R90; log 13). -/
def tableWordBytes (nbits w : Nat) : List Byte :=
  let v := w % 2 ^ nbits
  [BitVec.ofNat 8 v, BitVec.ofNat 8 (v / 256), BitVec.ofNat 8 (v / 65536)]

/-- What the decoder reads from the table's word `w` of `nbits` bits. -/
def decodeTableWord (nbits w : Nat) : Option Instr :=
  match decode (tableWordBytes nbits w) with
  | .ok (i, _) => some i
  | .error _ => none

/-- The bytes of an instruction, in the order they stand in memory (R91 to R93, R104). -/
def encode : Instr → List Byte
  | .nop => [0x00]
  | .lxiB d => [0x01, loByte d, hiByte d]
  | .staxB => [0x02]
  | .inxB => [0x03]
  | .inrB => [0x04]
  | .dcrB => [0x05]
  | .mviB d => [0x06, d]
  | .rlc => [0x07]
  | .unimplemented08 => [0x08]
  | .dadB => [0x09]
  | .ldaxB => [0x0A]
  | .dcxB => [0x0B]
  | .inrC => [0x0C]
  | .dcrC => [0x0D]
  | .mviC d => [0x0E, d]
  | .rrc => [0x0F]
  | .unimplemented10 => [0x10]
  | .lxiD d => [0x11, loByte d, hiByte d]
  | .staxD => [0x12]
  | .inxD => [0x13]
  | .inrD => [0x14]
  | .dcrD => [0x15]
  | .mviD d => [0x16, d]
  | .ral => [0x17]
  | .unimplemented18 => [0x18]
  | .dadD => [0x19]
  | .ldaxD => [0x1A]
  | .dcxD => [0x1B]
  | .inrE => [0x1C]
  | .dcrE => [0x1D]
  | .mviE d => [0x1E, d]
  | .rar => [0x1F]
  | .unimplemented20 => [0x20]
  | .lxiH d => [0x21, loByte d, hiByte d]
  | .shld d => [0x22, loByte d, hiByte d]
  | .inxH => [0x23]
  | .inrH => [0x24]
  | .dcrH => [0x25]
  | .mviH d => [0x26, d]
  | .daa => [0x27]
  | .unimplemented28 => [0x28]
  | .dadH => [0x29]
  | .lhld d => [0x2A, loByte d, hiByte d]
  | .dcxH => [0x2B]
  | .inrL => [0x2C]
  | .dcrL => [0x2D]
  | .mviL d => [0x2E, d]
  | .cma => [0x2F]
  | .unimplemented30 => [0x30]
  | .lxiSP d => [0x31, loByte d, hiByte d]
  | .sta d => [0x32, loByte d, hiByte d]
  | .inxSP => [0x33]
  | .inrM => [0x34]
  | .dcrM => [0x35]
  | .mviM d => [0x36, d]
  | .stc => [0x37]
  | .unimplemented38 => [0x38]
  | .dadSP => [0x39]
  | .lda d => [0x3A, loByte d, hiByte d]
  | .dcxSP => [0x3B]
  | .inrA => [0x3C]
  | .dcrA => [0x3D]
  | .mviA d => [0x3E, d]
  | .cmc => [0x3F]
  | .movBB => [0x40]
  | .movBC => [0x41]
  | .movBD => [0x42]
  | .movBE => [0x43]
  | .movBH => [0x44]
  | .movBL => [0x45]
  | .movBM => [0x46]
  | .movBA => [0x47]
  | .movCB => [0x48]
  | .movCC => [0x49]
  | .movCD => [0x4A]
  | .movCE => [0x4B]
  | .movCH => [0x4C]
  | .movCL => [0x4D]
  | .movCM => [0x4E]
  | .movCA => [0x4F]
  | .movDB => [0x50]
  | .movDC => [0x51]
  | .movDD => [0x52]
  | .movDE => [0x53]
  | .movDH => [0x54]
  | .movDL => [0x55]
  | .movDM => [0x56]
  | .movDA => [0x57]
  | .movEB => [0x58]
  | .movEC => [0x59]
  | .movED => [0x5A]
  | .movEE => [0x5B]
  | .movEH => [0x5C]
  | .movEL => [0x5D]
  | .movEM => [0x5E]
  | .movEA => [0x5F]
  | .movHB => [0x60]
  | .movHC => [0x61]
  | .movHD => [0x62]
  | .movHE => [0x63]
  | .movHH => [0x64]
  | .movHL => [0x65]
  | .movHM => [0x66]
  | .movHA => [0x67]
  | .movLB => [0x68]
  | .movLC => [0x69]
  | .movLD => [0x6A]
  | .movLE => [0x6B]
  | .movLH => [0x6C]
  | .movLL => [0x6D]
  | .movLM => [0x6E]
  | .movLA => [0x6F]
  | .movMB => [0x70]
  | .movMC => [0x71]
  | .movMD => [0x72]
  | .movME => [0x73]
  | .movMH => [0x74]
  | .movML => [0x75]
  | .hlt => [0x76]
  | .movMA => [0x77]
  | .movAB => [0x78]
  | .movAC => [0x79]
  | .movAD => [0x7A]
  | .movAE => [0x7B]
  | .movAH => [0x7C]
  | .movAL => [0x7D]
  | .movAM => [0x7E]
  | .movAA => [0x7F]
  | .addB => [0x80]
  | .addC => [0x81]
  | .addD => [0x82]
  | .addE => [0x83]
  | .addH => [0x84]
  | .addL => [0x85]
  | .addM => [0x86]
  | .addA => [0x87]
  | .adcB => [0x88]
  | .adcC => [0x89]
  | .adcD => [0x8A]
  | .adcE => [0x8B]
  | .adcH => [0x8C]
  | .adcL => [0x8D]
  | .adcM => [0x8E]
  | .adcA => [0x8F]
  | .subB => [0x90]
  | .subC => [0x91]
  | .subD => [0x92]
  | .subE => [0x93]
  | .subH => [0x94]
  | .subL => [0x95]
  | .subM => [0x96]
  | .subA => [0x97]
  | .sbbB => [0x98]
  | .sbbC => [0x99]
  | .sbbD => [0x9A]
  | .sbbE => [0x9B]
  | .sbbH => [0x9C]
  | .sbbL => [0x9D]
  | .sbbM => [0x9E]
  | .sbbA => [0x9F]
  | .anaB => [0xA0]
  | .anaC => [0xA1]
  | .anaD => [0xA2]
  | .anaE => [0xA3]
  | .anaH => [0xA4]
  | .anaL => [0xA5]
  | .anaM => [0xA6]
  | .anaA => [0xA7]
  | .xraB => [0xA8]
  | .xraC => [0xA9]
  | .xraD => [0xAA]
  | .xraE => [0xAB]
  | .xraH => [0xAC]
  | .xraL => [0xAD]
  | .xraM => [0xAE]
  | .xraA => [0xAF]
  | .oraB => [0xB0]
  | .oraC => [0xB1]
  | .oraD => [0xB2]
  | .oraE => [0xB3]
  | .oraH => [0xB4]
  | .oraL => [0xB5]
  | .oraM => [0xB6]
  | .oraA => [0xB7]
  | .cmpB => [0xB8]
  | .cmpC => [0xB9]
  | .cmpD => [0xBA]
  | .cmpE => [0xBB]
  | .cmpH => [0xBC]
  | .cmpL => [0xBD]
  | .cmpM => [0xBE]
  | .cmpA => [0xBF]
  | .rnz => [0xC0]
  | .popB => [0xC1]
  | .jnz d => [0xC2, loByte d, hiByte d]
  | .jmp d => [0xC3, loByte d, hiByte d]
  | .cnz d => [0xC4, loByte d, hiByte d]
  | .pushB => [0xC5]
  | .adi d => [0xC6, d]
  | .rst0 => [0xC7]
  | .rz => [0xC8]
  | .ret => [0xC9]
  | .jz d => [0xCA, loByte d, hiByte d]
  | .unimplementedCB => [0xCB]
  | .cz d => [0xCC, loByte d, hiByte d]
  | .call d => [0xCD, loByte d, hiByte d]
  | .aci d => [0xCE, d]
  | .rst1 => [0xCF]
  | .rnc => [0xD0]
  | .popD => [0xD1]
  | .jnc d => [0xD2, loByte d, hiByte d]
  | .outPort d => [0xD3, d]
  | .cnc d => [0xD4, loByte d, hiByte d]
  | .pushD => [0xD5]
  | .sui d => [0xD6, d]
  | .rst2 => [0xD7]
  | .rc => [0xD8]
  | .unimplementedD9 => [0xD9]
  | .jc d => [0xDA, loByte d, hiByte d]
  | .inPort d => [0xDB, d]
  | .cc d => [0xDC, loByte d, hiByte d]
  | .unimplementedDD => [0xDD]
  | .sbi d => [0xDE, d]
  | .rst3 => [0xDF]
  | .rpo => [0xE0]
  | .popH => [0xE1]
  | .jpo d => [0xE2, loByte d, hiByte d]
  | .xthl => [0xE3]
  | .cpo d => [0xE4, loByte d, hiByte d]
  | .pushH => [0xE5]
  | .ani d => [0xE6, d]
  | .rst4 => [0xE7]
  | .rpe => [0xE8]
  | .pchl => [0xE9]
  | .jpe d => [0xEA, loByte d, hiByte d]
  | .xchg => [0xEB]
  | .cpe d => [0xEC, loByte d, hiByte d]
  | .unimplementedED => [0xED]
  | .xri d => [0xEE, d]
  | .rst5 => [0xEF]
  | .rp => [0xF0]
  | .popPSW => [0xF1]
  | .jp d => [0xF2, loByte d, hiByte d]
  | .di => [0xF3]
  | .cp d => [0xF4, loByte d, hiByte d]
  | .pushPSW => [0xF5]
  | .ori d => [0xF6, d]
  | .rst6 => [0xF7]
  | .rm => [0xF8]
  | .sphl => [0xF9]
  | .jm d => [0xFA, loByte d, hiByte d]
  | .ei => [0xFB]
  | .cm d => [0xFC, loByte d, hiByte d]
  | .unimplementedFD => [0xFD]
  | .cpi d => [0xFE, d]
  | .rst7 => [0xFF]

end Sys2Proof
end

