-- ==== Sys2Proof/Machine/EnvState.lean ====
section
/-! DEFINITION. The state of the core's environment as plain data (spec 00 R7, R11; 60 R436, R440, R447): the port bridge,
the scheduler, and what the environment presents at instruction boundaries. -/

namespace Sys2Proof.Machine

/-- Memory (20 R60): the bytes that differ from what an unlisted address reads as, by rising address. -/
abbrev Memory := List Host.Cell

/-- The sound events of the platform (60 R444): four on port 3, five on port 5. -/
inductive Sound where
  | ufo | shot | playerDeath | invaderDeath
  | fleet1 | fleet2 | fleet3 | fleet4 | ufoHit
  deriving DecidableEq, Repr

/-- The platform's port bridge (60 R440). -/
structure PortBridge where
  in1 : Byte
  in2 : Byte
  shiftReg : Word
  shiftOffset : BitVec 3
  deriving DecidableEq, Repr

/-- The platform's two interrupts (60 R436). -/
inductive VideoVector where
  /-- Vector 1. -/
  | midScreen
  /-- Vector 2. -/
  | verticalBlank
  deriving DecidableEq, Repr

/-- The reference scheduler's own state (60 R436): the vector of the next deadline, that deadline, and the clock as the
host last supplied it (R447), both in milliseconds. -/
structure Scheduler where
  nextVector : VideoVector
  deadline : Nat
  clock : Nat
  deriving DecidableEq, Repr

/-- What the host supplies to one iteration of the scheduler's loop (60 R436, R447): the input latches, the
milliseconds since it last supplied the clock, which is monotonic, and whether the quit signal is raised. -/
structure HostSample where
  in1 : Byte
  in2 : Byte
  elapsed : Nat
  quit : Bool
  deriving DecidableEq, Repr, Inhabited

/-- What the environment presents at an instruction boundary (60 R404, R405, R436, R447, R453; log 6). -/
inductive Event where
  /-- No request: an Execute step (R404). -/
  | execute
  /-- An interrupt request with this vector number, 0 to 7: a Deliver step (R404, R410). -/
  | request (v : BitVec 3)
  /-- The input collaborator writes in1 (R447). -/
  | writeIn1 (v : Byte)
  /-- The input collaborator writes in2 (R447). -/
  | writeIn2 (v : Byte)
  /-- The renderer reads memory (R436, R447). -/
  | render
  /-- The reference scheduler begins an iteration of its loop (R436). -/
  | iterate (sample : HostSample)
  /-- The host's quit signal ends the run (R453). -/
  | quit
  deriving DecidableEq, Repr

/-- What the environment does once the listed events are spent, without end (00 R11 `irq`; log 6). -/
inductive Schedule where
  /-- Every boundary is an Execute step. -/
  | execute
  /-- At each boundary the free value `Config.irq` decides: no request, or a request with a vector number. The number
  counts the boundaries at which it has decided. -/
  | requests (n : Nat)
  /-- The reference scheduler's loop (60 R436): iteration after iteration, each with the free sample `Config.hostSample`.
  The number counts the iterations begun. -/
  | loop (n : Nat)
  deriving DecidableEq, Repr

/-- The environment of the core (00 R7, R11). -/
structure Env where
  /-- The platform's port bridge; `none` is the core alone, its IN answered by `Config.ioIn` (log 5). -/
  bridge : Option PortBridge
  /-- What the environment presents at the coming boundaries, first one first (log 6). -/
  events : List Event
  /-- What it presents at the boundaries after those (log 6). -/
  later : Schedule
  /-- How many bytes IN has drawn from `Config.ioIn`: the model's own counter (log 7). -/
  draws : Nat
  /-- The (port, byte) pairs IoWrite has delivered, oldest first (20 R65; log 8). -/
  outputs : List (Byte × Byte)
  /-- The sounds the bridge has played, oldest first (60 R445; log 8). -/
  plays : List Sound
  scheduler : Scheduler
  /-- The memory the renderer last read, if it has read any (60 R436; log 8). -/
  rendered : Option Memory
  deriving DecidableEq, Repr

end Sys2Proof.Machine
end

