-- ==== Sys2Proof/Config.lean ====
section
/-! DEFINITION. What an implementation or the environment fixes: the platform's constants the spec gives, and the
free values it leaves open (spec 00 R11). A free value is opaque: nothing can be proved of it. Those that the environment
chooses take the environment's whole state, so that a choice may depend on everything the machine has given it. -/

namespace Sys2Proof

open Sys2Proof.Machine (Env HostSample Sound)

/-- The sounds port 3 can trigger (60 R444). -/
def Config.port3Sounds : List Sound := [.ufo, .shot, .playerDeath, .invaderDeath]

/-- The sounds port 5 can trigger (60 R444). -/
def Config.port5Sounds : List Sound := [.fleet1, .fleet2, .fleet3, .fleet4, .ufoHit]

/-- Parameter `sound_map` (R11, R445, D22), as the choices that lay the sounds of a port on different bits, one choice
for each sound (see `soundMap`). FREE VALUE (log 10). -/
opaque Config.soundChoice : Byte → Nat → Nat

/-- The choices that put the sounds of one write in an order, which 60 R445 leaves open. FREE VALUE (log 10). -/
opaque Config.playChoice : Env → Nat → Nat

/-- Parameter `io_in` (R11, R65, R446, D16, D17): the byte an environment in this state answers on this port. FREE VALUE
(log 7). -/
opaque Config.ioIn : Env → Byte → Byte

/-- Parameter `irq` (R11, D13, D14): no request, or one with a vector number, at a boundary to which an environment in
this state comes. FREE VALUE (log 6). -/
opaque Config.irq : Env → Option (BitVec 3)

/-- What the host supplies to an iteration of the scheduler's loop that an environment in this state begins (60 R447).
FREE VALUE (log 6). -/
opaque Config.hostSample : Env → HostSample

/-- Bytes of memory (20 R60). -/
def Config.memoryBytes : Nat := 65536

/-- Instructions the reference scheduler runs in one iteration (60 R436). -/
def Config.batchLength : Nat := 100

/-- Milliseconds between two deadlines of the reference scheduler (60 R436). -/
def Config.interruptInterval : Nat := 8

end Sys2Proof
end

