-- ==== Sys2Proof/Machine/State.lean ====
section
/-! DEFINITION. The machine's state (spec 10 R30) as plain data, with the environment it runs in; why a step can stop; and
the state right after reset (70 R503). -/

namespace Sys2Proof.Machine

/-- The seven 8-bit registers (R31). -/
structure Regs where
  a : Byte
  b : Byte
  c : Byte
  d : Byte
  e : Byte
  h : Byte
  l : Byte
  deriving DecidableEq, Repr

/-- The five flags, independent 1-bit values (R36, R37). -/
structure Flags where
  z : Bool
  s : Bool
  p : Bool
  cy : Bool
  ac : Bool
  deriving DecidableEq, Repr

/-- The run status (R40). Halted and Faulted are terminal. -/
inductive Status where
  | running
  | halted
  /-- The core fetched the unimplemented opcode `op` at address `pc`. -/
  | faulted (op : Byte) (pc : Word)
  deriving DecidableEq, Repr

/-- What an address that is not listed reads as: memory is zero before the image is loaded (70 R501). -/
def unlistedByte : Byte := 0x00

/-- The machine's state (R30), with the environment it runs in. -/
structure State where
  regs : Regs
  /-- Stack pointer. -/
  sp : Word
  /-- Program counter (R34). -/
  pc : Word
  flags : Flags
  /-- The interrupt-enable latch INTE (R38). -/
  inte : Bool
  status : Status
  mem : Memory
  env : Env
  deriving DecidableEq, Repr

/-- Why no step exists (60 R404). No instruction raises one: all are raised by the step itself. -/
inductive Fault where
  /-- Raised by a step from status Halted, the final state of the run (60 R402). Safe: nothing goes on. -/
  | halted
  /-- Raised by a step from status Faulted(op, pc), the fault report of 60 R400, R401. Safe: nothing goes on. -/
  | unimplementedOpcode (op : Byte) (pc : Word)
  /-- Raised by the host's quit signal at a boundary (60 R453). Safe: nothing goes on. -/
  | quit
  deriving DecidableEq, Repr

/-- Instructions without a meaning. -/
inductive Refusal where
  /-- Raised by an arm of exec whose instruction has no meaning yet. Safe: nothing goes on. No arm raises it. -/
  | notModelled (mnemonic : String)
  deriving DecidableEq, Repr

/-- What running one instruction, or one step, answers. -/
abbrev Answer := Host.Outcome State Fault Refusal

/-- All seven registers zero: the model's choice for `init_regs` (R42; log 1). -/
def Regs.zero : Regs := { a := 0, b := 0, c := 0, d := 0, e := 0, h := 0, l := 0 }

/-- All five flags zero: the model's choice for `init_regs` (R42; log 1). -/
def Flags.zero : Flags := { z := false, s := false, p := false, cy := false, ac := false }

/-- The environment at the start of a run: the port state of 60 R440 (in2 the reference's 0x00; log 3), nothing
presented (log 6), nothing drawn, played or rendered, and the scheduler's start values of log 4. -/
def Env.reset : Env :=
  { bridge := some { in1 := 0x08, in2 := 0x00, shiftReg := 0, shiftOffset := 0 }
    events := []
    later := .execute
    draws := 0
    outputs := []
    plays := []
    scheduler := { nextVector := .midScreen, deadline := 0, clock := 0 }
    rendered := none }

/-- The machine right after reset (70 R503), before any image is loaded: PC 0, INTE 0, Running, memory zero; the
registers and flags, which the spec leaves open, as log 1 names them. -/
def State.reset : State :=
  { regs := .zero
    sp := 0
    pc := 0
    flags := .zero
    inte := false
    status := .running
    mem := []
    env := .reset }

end Sys2Proof.Machine
end

