-- ==== Sys2Proof/Machine/Operands.lean ====
section
/-! DEFINITION. Operand forms: register, pair, condition and flag names with their codes (spec 30 R95 to R97), and
the one place where registers, pairs and flags are read and written (10 R31, R33, R36). -/

namespace Sys2Proof.Machine

/-- The seven registers (R31). -/
inductive Reg where
  | b | c | d | e | h | l | a
  deriving DecidableEq, Repr

/-- The register code used in DDD and SSS (R95). Code 110 is M and names no register. -/
def Reg.code : Reg → BitVec 3
  | .b => 0b000 | .c => 0b001 | .d => 0b010 | .e => 0b011 | .h => 0b100 | .l => 0b101 | .a => 0b111

/-- The pairs of LXI, INX, DCX and DAD (R33, R96). -/
inductive Pair where
  | bc | de | hl | sp
  deriving DecidableEq, Repr

/-- The register pair code RP (R96). -/
def Pair.code : Pair → BitVec 2
  | .bc => 0b00 | .de => 0b01 | .hl => 0b10 | .sp => 0b11

/-- The eight conditions (R97). -/
inductive Cond where
  | nz | z | nc | c | po | pe | p | m
  deriving DecidableEq, Repr

/-- The condition code CCC (R97). -/
def Cond.code : Cond → BitVec 3
  | .nz => 0b000 | .z => 0b001 | .nc => 0b010 | .c => 0b011 | .po => 0b100 | .pe => 0b101 | .p => 0b110 | .m => 0b111

/-- The five flags by name (R36). -/
inductive Flag where
  | z | s | p | cy | ac
  deriving DecidableEq, Repr

/-- The second operand of an ALU instruction (R162). -/
inductive Src where
  | reg (r : Reg)
  | m
  | imm (v : Byte)
  deriving DecidableEq, Repr

/-- How many bytes an ALU instruction with this operand has (R91, R92). -/
def Src.length : Src → Word
  | .reg _ => 1
  | .m => 1
  | .imm _ => 2

def Regs.get (x : Regs) : Reg → Byte
  | .a => x.a | .b => x.b | .c => x.c | .d => x.d | .e => x.e | .h => x.h | .l => x.l

def Regs.set (x : Regs) (r : Reg) (v : Byte) : Regs :=
  match r with
  | .a => { x with a := v }
  | .b => { x with b := v }
  | .c => { x with c := v }
  | .d => { x with d := v }
  | .e => { x with e := v }
  | .h => { x with h := v }
  | .l => { x with l := v }

def Flags.get (f : Flags) : Flag → Bool
  | .z => f.z | .s => f.s | .p => f.p | .cy => f.cy | .ac => f.ac

/-- `x[r]` (R14). -/
def State.getReg (s : State) (r : Reg) : Byte := s.regs.get r

/-- `x[r] <- v` (R14). -/
def State.setReg (s : State) (r : Reg) (v : Byte) : State := { s with regs := s.regs.set r v }

/-- `pair(rp)` (R33). -/
def State.getPair (s : State) : Pair → Word
  | .bc => wordOf s.regs.b s.regs.c
  | .de => wordOf s.regs.d s.regs.e
  | .hl => wordOf s.regs.h s.regs.l
  | .sp => s.sp

/-- `pair(rp) <- v`: `v[15:8]` to the high register and `v[7:0]` to the low one, or SP (R33). -/
def State.setPair (s : State) (rp : Pair) (v : Word) : State :=
  match rp with
  | .bc => { s with regs := { s.regs with b := hiByte v, c := loByte v } }
  | .de => { s with regs := { s.regs with d := hiByte v, e := loByte v } }
  | .hl => { s with regs := { s.regs with h := hiByte v, l := loByte v } }
  | .sp => { s with sp := v }

/-- The value of a flag. -/
def State.flag (s : State) (f : Flag) : Bool := s.flags.get f

def State.setFlags (s : State) (f : Flags) : State := { s with flags := f }

/-- `CY <- c`, the other flags kept (R213, R182, R220, R221). -/
def State.setCarry (s : State) (c : Bool) : State := { s with flags := { s.flags with cy := c } }

/-- The condition predicate cond(CCC) (44 R270). -/
def State.cond (s : State) : Cond → Bool
  | .nz => !s.flags.z
  | .z => s.flags.z
  | .nc => !s.flags.cy
  | .c => s.flags.cy
  | .po => !s.flags.p
  | .pe => s.flags.p
  | .p => !s.flags.s
  | .m => s.flags.s

/-- `PC <- target` (R14). -/
def State.setPc (s : State) (target : Word) : State := { s with pc := target }

/-- `PC <- pc +16 n`, the generic length advance (R34, R35). -/
def State.advance (s : State) (n : Word) : State := { s with pc := s.pc + n }

def State.setSp (s : State) (v : Word) : State := { s with sp := v }

def State.setInte (s : State) (v : Bool) : State := { s with inte := v }

def State.setStatus (s : State) (v : Status) : State := { s with status := v }

def State.setMem (s : State) (m : Memory) : State := { s with mem := m }

def State.setEnv (s : State) (e : Env) : State := { s with env := e }

end Sys2Proof.Machine
end

