-- ==== Sys2Proof/Machine/Flags.lean ====
section
/-! DEFINITION. The flag engine (spec 00 R18) and the arithmetic of the ALU: adder, subtractor, logical group,
increment, decrement, rotates, decimal adjust, and the packed flag byte. -/

namespace Sys2Proof.Machine

/-- `zf(v)` (R18). -/
def zf (v : Byte) : Bool := v == 0

/-- `sf(v)` (R18). -/
def sf (v : Byte) : Bool := v.getLsbD 7

/-- `pf(v)`: 1 for an even number of 1 bits (R18). -/
def pf (v : Byte) : Bool := popcount v % 2 == 0

/-- `setZSP(v)` (R18). -/
def Flags.setZSP (f : Flags) (v : Byte) : Flags := { f with z := zf v, s := sf v, p := pf v }

/-- An 8-bit result with the carry and auxiliary carry that go with it. -/
structure AluResult where
  value : Byte
  cy : Bool
  ac : Bool
  deriving DecidableEq, Repr

/-- All five flags from a result: setZSP of the value, CY and AC as computed (R163, R200, R218). -/
def AluResult.flags (r : AluResult) : Flags :=
  { z := zf r.value, s := sf r.value, p := pf r.value, cy := r.cy, ac := r.ac }

/-- `v & 0x0F`, as a number. -/
def lowNibble (v : Byte) : Nat := (v &&& 0x0F).toNat

/-- The 8-bit adder add8(a, b, cin) (R160). -/
def add8 (a b : Byte) (cin : Bool) : AluResult :=
  let sum := a.toNat + b.toNat + cin.toNat
  { value := BitVec.ofNat 8 sum
    cy := decide (sum > 0xFF)
    ac := decide (lowNibble a + lowNibble b + cin.toNat > 0x0F) }

/-- The 8-bit subtractor sub8(a, b, bin) (R161): CY and AC are borrows, out of bit 7 and out of bit 3 (log 16). -/
def sub8 (a b : Byte) (bin : Bool) : AluResult :=
  let diff : Int := (a.toNat : Int) - b.toNat - bin.toNat
  { value := BitVec.ofInt 8 diff
    cy := decide (diff < 0)
    ac := decide ((lowNibble a : Int) - lowNibble b - bin.toNat < 0) }

/-- AND: CY cleared, AC the OR of bit 3 of both operands (R200, R201). -/
def and8 (a b : Byte) : AluResult := { value := a &&& b, cy := false, ac := a.getLsbD 3 || b.getLsbD 3 }

/-- XOR: CY and AC cleared (R200, R204). -/
def xor8 (a b : Byte) : AluResult := { value := a ^^^ b, cy := false, ac := false }

/-- OR: CY and AC cleared (R200, R207). -/
def or8 (a b : Byte) : AluResult := { value := a ||| b, cy := false, ac := false }

/-- `v +8 1` with CY kept; AC is set when the low nibble was 0xF (R166). -/
def inc8 (v : Byte) (cy : Bool) : AluResult := { value := v + 1, cy := cy, ac := lowNibble v == 0x0F }

/-- `v -8 1` with CY kept; AC is set when the low nibble was 0x0 (R168). -/
def dec8 (v : Byte) (cy : Bool) : AluResult := { value := v - 1, cy := cy, ac := lowNibble v == 0x00 }

/-- Rotate left: bit 7 to bit 0 and to CY (R214). The new value and the new CY. -/
def rlc8 (a : Byte) : Byte × Bool := ((a <<< 1) ||| (BitVec.ofBool (a.getLsbD 7)).setWidth 8, a.getLsbD 7)

/-- Rotate right: bit 0 to bit 7 and to CY (R215). -/
def rrc8 (a : Byte) : Byte × Bool := ((a >>> 1) ||| (BitVec.ofBool (a.getLsbD 0)).setWidth 8 <<< 7, a.getLsbD 0)

/-- Rotate left through carry: CY to bit 0, bit 7 to CY (R216). -/
def ral8 (a : Byte) (cy : Bool) : Byte × Bool := ((a <<< 1) ||| (BitVec.ofBool cy).setWidth 8, a.getLsbD 7)

/-- Rotate right through carry: CY to bit 7, bit 0 to CY (R217). -/
def rar8 (a : Byte) (cy : Bool) : Byte × Bool := ((a >>> 1) ||| (BitVec.ofBool cy).setWidth 8 <<< 7, a.getLsbD 0)

/-- Decimal adjust (R218): the low correction, then the high one, over an exact intermediate `t`. -/
def daa8 (a : Byte) (ac cy : Bool) : AluResult :=
  let lo := lowNibble a
  let low := decide (lo > 9) || ac
  let t := if low then a.toNat + 0x06 else a.toNat
  let high := decide (t / 16 > 9) || cy
  { value := BitVec.ofNat 8 (if high then t + 0x60 else t)
    cy := if high then true else cy
    ac := low && decide (lo + 0x06 > 0x0F) }

/-- The packed flag byte, S Z 0 AC 0 P 1 CY from bit 7 down (R252). -/
def Flags.pack (f : Flags) : Byte :=
  BitVec.ofBool f.s ++ BitVec.ofBool f.z ++ 0#1 ++ BitVec.ofBool f.ac ++
  0#1 ++ BitVec.ofBool f.p ++ 1#1 ++ BitVec.ofBool f.cy

/-- Unpacking a flag byte: bits 5, 3 and 1 are ignored (R253). -/
def Flags.unpack (f : Byte) : Flags :=
  { s := f.getLsbD 7, z := f.getLsbD 6, ac := f.getLsbD 4, p := f.getLsbD 2, cy := f.getLsbD 0 }

end Sys2Proof.Machine
end

