-- ==== Sys2Proof/Machine/Ops.lean ====
section
/-! DEFINITION. The named operations over memory and the stack (spec 20, 43), taking an exception (00 R16, 60 R400),
interrupt entry (60 R411, R412) and the return from it (60 R420). -/

namespace Sys2Proof.Machine

/-- `Mem[a]` (R62). -/
def Memory.read : Memory → Word → Byte
  | [], _ => unlistedByte
  | (k, v) :: m, a => if k = a.toNat then v else Memory.read m a

/-- The list without its entries for this address. -/
def Memory.erase (m : Memory) (k : Nat) : Memory := m.filter fun c => c.1 != k

/-- Puts an entry where its address belongs in a list that has none for it. -/
def Memory.place : Memory → Nat → Byte → Memory
  | [], k, v => [(k, v)]
  | c :: m, k, v => if k < c.1 then (k, v) :: c :: m else c :: Memory.place m k v

/-- `Mem[a] <- v` (R62), keeping the canonical form: the byte an unlisted address reads as is not listed. -/
def Memory.write (m : Memory) (a : Word) (v : Byte) : Memory :=
  if v = unlistedByte then m.erase a.toNat else (m.erase a.toNat).place a.toNat v

/-- Every address of the list is at least k, and they rise strictly. -/
def Memory.risesAbove : Memory → Nat → Bool
  | [], _ => true
  | c :: m, k => decide (k ≤ c.1) && Memory.risesAbove m (c.1 + 1)

/-- The canonical form: addresses strictly rising within the 65,536 bytes (R60), no entry equal to what an unlisted
address reads as. -/
def Memory.wf (m : Memory) : Bool :=
  m.risesAbove 0 && m.all fun c => decide (c.1 < Config.memoryBytes) && c.2 != unlistedByte

/-- Copies an image from address `a` on (70 R501); past 0xFFFF the addresses wrap. -/
def Memory.load : Memory → Word → List Byte → Memory
  | m, _, [] => m
  | m, a, v :: image => Memory.load (m.write a v) (a + 1) image

/-- `MemRead(a, 1)` (R15, R62). -/
def State.readByte (s : State) (a : Word) : Byte := s.mem.read a

/-- `MemWrite(a, 1, v)` (R15, R62). -/
def State.writeByte (s : State) (a : Word) (v : Byte) : State := s.setMem (s.mem.write a v)

/-- `MemRead(a, 2)`: low byte at a, high byte at a +16 1 (R63). -/
def State.readWord (s : State) (a : Word) : Word := wordOf (s.readByte (a + 1)) (s.readByte a)

/-- `MemWrite(a, 2, v)`: low byte first (R63). -/
def State.writeWord (s : State) (a : Word) (v : Word) : State :=
  (s.writeByte a (loByte v)).writeByte (a + 1) (hiByte v)

/-- The address of the memory operand M (R120, R162). -/
def State.mAddr (s : State) : Word := s.getPair .hl

/-- The value of an ALU instruction's second operand (R162). -/
def State.src (s : State) : Src → Byte
  | .reg r => s.getReg r
  | .m => s.readByte s.mAddr
  | .imm v => v

/-- push16(v) (R250). -/
def State.push16 (s : State) (v : Word) : State :=
  ((s.writeByte (s.sp - 1) (hiByte v)).writeByte (s.sp - 2) (loByte v)).setSp (s.sp - 2)

/-- The value pop16() returns (R251). -/
def State.popValue (s : State) : Word := wordOf (s.readByte (s.sp + 1)) (s.readByte s.sp)

/-- What pop16() does to the state (R251). -/
def State.popStack (s : State) : State := s.setSp (s.sp + 2)

/-- Pushes a return address and goes to a target: the one operation behind CALL, RST and interrupt entry (R281, R299,
R411). -/
def State.callTo (s : State) (ret target : Word) : State := (s.push16 ret).setPc target

/-- `PC <- pop16()`: RET, and the return from an interrupt handler; only PC and SP change (R290, R420). -/
def State.returnToCaller (s : State) : State := s.popStack.setPc s.popValue

/-- The restart and interrupt target 8 x n (R99, R411). -/
def vectorAddress (n : BitVec 3) : Word := n.setWidth 16 * 8

/-- `raise UnimplementedOpcode(op, pc)` (R16, R326, R400): TAKING the one exception. The status becomes
Faulted(op, pc) and nothing else changes. -/
def State.raiseUnimplemented (s : State) (op : Byte) : State := s.setStatus (.faulted op s.pc)

/-- deliver(v) (R411, R412): interrupt entry if INTE = 1, a no-op that drops the request if INTE = 0. -/
def State.deliver (s : State) (v : BitVec 3) : State :=
  if s.inte then (s.callTo s.pc (vectorAddress v)).setInte false else s

end Sys2Proof.Machine
end

