-- ==== Sys2Proof/Machine/Arithmetic.lean ====
section
/-! DEFINITION. The arithmetic instructions (spec 41, R160 to R182). -/

namespace Sys2Proof.Machine

/-- `pair(RP) <- pair(RP) +16 1`, no flags (R164). -/
def State.inx (s : State) (rp : Pair) : State := (s.setPair rp (s.getPair rp + 1)).advance 1

/-- `pair(RP) <- pair(RP) -16 1`, no flags (R165). -/
def State.dcx (s : State) (rp : Pair) : State := (s.setPair rp (s.getPair rp - 1)).advance 1

/-- A register takes a result and the flags go with it, for INR r and DCR r (R166, R168). -/
def State.updateReg (s : State) (r : Reg) (res : AluResult) : State :=
  ((s.setReg r res.value).setFlags res.flags).advance 1

/-- The byte at M takes a result and the flags go with it, for INR M and DCR M (R167, R169). -/
def State.updateM (s : State) (res : AluResult) : State :=
  ((s.writeByte s.mAddr res.value).setFlags res.flags).advance 1

/-- A takes a result and all five flags go with it (R163). -/
def State.accumulate (s : State) (res : AluResult) (len : Word) : State :=
  ((s.setReg .a res.value).setFlags res.flags).advance len

/-- ADD, ADI (R170 to R172). -/
def State.add (s : State) (x : Src) : State := s.accumulate (add8 s.regs.a (s.src x) false) x.length

/-- ADC, ACI (R173 to R175). -/
def State.adc (s : State) (x : Src) : State := s.accumulate (add8 s.regs.a (s.src x) s.flags.cy) x.length

/-- SUB, SUI (R176 to R178). -/
def State.sub (s : State) (x : Src) : State := s.accumulate (sub8 s.regs.a (s.src x) false) x.length

/-- SBB, SBI (R179 to R181). -/
def State.sbb (s : State) (x : Src) : State := s.accumulate (sub8 s.regs.a (s.src x) s.flags.cy) x.length

/-- DAD: the 16-bit sum to HL and its carry out of bit 15 to CY (R182). -/
def State.dad (s : State) (rp : Pair) : State :=
  let sum := (s.getPair .hl).toNat + (s.getPair rp).toNat
  ((s.setPair .hl (BitVec.ofNat 16 sum)).setCarry (decide (sum > 0xFFFF))).advance 1

/-- INX B (R164). -/
def execInxB (s : State) : Answer := .next (s.inx .bc)

/-- INX D (R164). -/
def execInxD (s : State) : Answer := .next (s.inx .de)

/-- INX H (R164). -/
def execInxH (s : State) : Answer := .next (s.inx .hl)

/-- INX SP (R164). -/
def execInxSP (s : State) : Answer := .next (s.inx .sp)

/-- DCX B (R165). -/
def execDcxB (s : State) : Answer := .next (s.dcx .bc)

/-- DCX D (R165). -/
def execDcxD (s : State) : Answer := .next (s.dcx .de)

/-- DCX H (R165). -/
def execDcxH (s : State) : Answer := .next (s.dcx .hl)

/-- DCX SP (R165). -/
def execDcxSP (s : State) : Answer := .next (s.dcx .sp)

/-- INR B (R166). -/
def execInrB (s : State) : Answer := .next (s.updateReg .b (inc8 (s.getReg .b) s.flags.cy))

/-- INR C (R166). -/
def execInrC (s : State) : Answer := .next (s.updateReg .c (inc8 (s.getReg .c) s.flags.cy))

/-- INR D (R166). -/
def execInrD (s : State) : Answer := .next (s.updateReg .d (inc8 (s.getReg .d) s.flags.cy))

/-- INR E (R166). -/
def execInrE (s : State) : Answer := .next (s.updateReg .e (inc8 (s.getReg .e) s.flags.cy))

/-- INR H (R166). -/
def execInrH (s : State) : Answer := .next (s.updateReg .h (inc8 (s.getReg .h) s.flags.cy))

/-- INR L (R166). -/
def execInrL (s : State) : Answer := .next (s.updateReg .l (inc8 (s.getReg .l) s.flags.cy))

/-- INR A (R166). -/
def execInrA (s : State) : Answer := .next (s.updateReg .a (inc8 (s.getReg .a) s.flags.cy))

/-- INR M (R167). -/
def execInrM (s : State) : Answer := .next (s.updateM (inc8 (s.readByte s.mAddr) s.flags.cy))

/-- DCR B (R168). -/
def execDcrB (s : State) : Answer := .next (s.updateReg .b (dec8 (s.getReg .b) s.flags.cy))

/-- DCR C (R168). -/
def execDcrC (s : State) : Answer := .next (s.updateReg .c (dec8 (s.getReg .c) s.flags.cy))

/-- DCR D (R168). -/
def execDcrD (s : State) : Answer := .next (s.updateReg .d (dec8 (s.getReg .d) s.flags.cy))

/-- DCR E (R168). -/
def execDcrE (s : State) : Answer := .next (s.updateReg .e (dec8 (s.getReg .e) s.flags.cy))

/-- DCR H (R168). -/
def execDcrH (s : State) : Answer := .next (s.updateReg .h (dec8 (s.getReg .h) s.flags.cy))

/-- DCR L (R168). -/
def execDcrL (s : State) : Answer := .next (s.updateReg .l (dec8 (s.getReg .l) s.flags.cy))

/-- DCR A (R168). -/
def execDcrA (s : State) : Answer := .next (s.updateReg .a (dec8 (s.getReg .a) s.flags.cy))

/-- DCR M (R169). -/
def execDcrM (s : State) : Answer := .next (s.updateM (dec8 (s.readByte s.mAddr) s.flags.cy))

/-- ADD B (R170). -/
def execAddB (s : State) : Answer := .next (s.add (.reg .b))

/-- ADD C (R170). -/
def execAddC (s : State) : Answer := .next (s.add (.reg .c))

/-- ADD D (R170). -/
def execAddD (s : State) : Answer := .next (s.add (.reg .d))

/-- ADD E (R170). -/
def execAddE (s : State) : Answer := .next (s.add (.reg .e))

/-- ADD H (R170). -/
def execAddH (s : State) : Answer := .next (s.add (.reg .h))

/-- ADD L (R170). -/
def execAddL (s : State) : Answer := .next (s.add (.reg .l))

/-- ADD M (R171). -/
def execAddM (s : State) : Answer := .next (s.add .m)

/-- ADD A (R170). -/
def execAddA (s : State) : Answer := .next (s.add (.reg .a))

/-- ADI d8 (R172). -/
def execAdi (d : Byte) (s : State) : Answer := .next (s.add (.imm d))

/-- ADC B (R173). -/
def execAdcB (s : State) : Answer := .next (s.adc (.reg .b))

/-- ADC C (R173). -/
def execAdcC (s : State) : Answer := .next (s.adc (.reg .c))

/-- ADC D (R173). -/
def execAdcD (s : State) : Answer := .next (s.adc (.reg .d))

/-- ADC E (R173). -/
def execAdcE (s : State) : Answer := .next (s.adc (.reg .e))

/-- ADC H (R173). -/
def execAdcH (s : State) : Answer := .next (s.adc (.reg .h))

/-- ADC L (R173). -/
def execAdcL (s : State) : Answer := .next (s.adc (.reg .l))

/-- ADC M (R174). -/
def execAdcM (s : State) : Answer := .next (s.adc .m)

/-- ADC A (R173). -/
def execAdcA (s : State) : Answer := .next (s.adc (.reg .a))

/-- ACI d8 (R175). -/
def execAci (d : Byte) (s : State) : Answer := .next (s.adc (.imm d))

/-- SUB B (R176). -/
def execSubB (s : State) : Answer := .next (s.sub (.reg .b))

/-- SUB C (R176). -/
def execSubC (s : State) : Answer := .next (s.sub (.reg .c))

/-- SUB D (R176). -/
def execSubD (s : State) : Answer := .next (s.sub (.reg .d))

/-- SUB E (R176). -/
def execSubE (s : State) : Answer := .next (s.sub (.reg .e))

/-- SUB H (R176). -/
def execSubH (s : State) : Answer := .next (s.sub (.reg .h))

/-- SUB L (R176). -/
def execSubL (s : State) : Answer := .next (s.sub (.reg .l))

/-- SUB M (R177). -/
def execSubM (s : State) : Answer := .next (s.sub .m)

/-- SUB A (R176). -/
def execSubA (s : State) : Answer := .next (s.sub (.reg .a))

/-- SUI d8 (R178). -/
def execSui (d : Byte) (s : State) : Answer := .next (s.sub (.imm d))

/-- SBB B (R179). -/
def execSbbB (s : State) : Answer := .next (s.sbb (.reg .b))

/-- SBB C (R179). -/
def execSbbC (s : State) : Answer := .next (s.sbb (.reg .c))

/-- SBB D (R179). -/
def execSbbD (s : State) : Answer := .next (s.sbb (.reg .d))

/-- SBB E (R179). -/
def execSbbE (s : State) : Answer := .next (s.sbb (.reg .e))

/-- SBB H (R179). -/
def execSbbH (s : State) : Answer := .next (s.sbb (.reg .h))

/-- SBB L (R179). -/
def execSbbL (s : State) : Answer := .next (s.sbb (.reg .l))

/-- SBB M (R180). -/
def execSbbM (s : State) : Answer := .next (s.sbb .m)

/-- SBB A (R179). -/
def execSbbA (s : State) : Answer := .next (s.sbb (.reg .a))

/-- SBI d8 (R181). -/
def execSbi (d : Byte) (s : State) : Answer := .next (s.sbb (.imm d))

/-- DAD B (R182). -/
def execDadB (s : State) : Answer := .next (s.dad .bc)

/-- DAD D (R182). -/
def execDadD (s : State) : Answer := .next (s.dad .de)

/-- DAD H (R182). -/
def execDadH (s : State) : Answer := .next (s.dad .hl)

/-- DAD SP (R182). -/
def execDadSP (s : State) : Answer := .next (s.dad .sp)

end Sys2Proof.Machine
end

