-- ==== Sys2Proof/Machine/Control.lean ====
section
/-! DEFINITION. The control transfers (spec 44, R270 to R300). None writes a flag. A taken transfer sets PC to its target; one that
is not taken only advances PC by its length (R271). -/

namespace Sys2Proof.Machine

/-- Jcc (R273 to R280). -/
def State.jumpIf (s : State) (test : Cond) (target : Word) : State :=
  if s.cond test then s.setPc target else s.advance 3

/-- Ccc (R282 to R289). -/
def State.callIf (s : State) (test : Cond) (target : Word) : State :=
  if s.cond test then s.callTo (s.pc + 3) target else s.advance 3

/-- Rcc (R291 to R298). -/
def State.returnIf (s : State) (test : Cond) : State :=
  if s.cond test then s.returnToCaller else s.advance 1

/-- RST n (R299). -/
def State.restart (s : State) (n : BitVec 3) : State := s.callTo (s.pc + 1) (vectorAddress n)

/-- JMP a16 (R272). -/
def execJmp (d : Word) (s : State) : Answer := .next (s.setPc d)

/-- JNZ a16 (R273). -/
def execJnz (d : Word) (s : State) : Answer := .next (s.jumpIf .nz d)

/-- JZ a16 (R274). -/
def execJz (d : Word) (s : State) : Answer := .next (s.jumpIf .z d)

/-- JNC a16 (R275). -/
def execJnc (d : Word) (s : State) : Answer := .next (s.jumpIf .nc d)

/-- JC a16 (R276). -/
def execJc (d : Word) (s : State) : Answer := .next (s.jumpIf .c d)

/-- JPO a16 (R277). -/
def execJpo (d : Word) (s : State) : Answer := .next (s.jumpIf .po d)

/-- JPE a16 (R278). -/
def execJpe (d : Word) (s : State) : Answer := .next (s.jumpIf .pe d)

/-- JP a16 (R279). -/
def execJp (d : Word) (s : State) : Answer := .next (s.jumpIf .p d)

/-- JM a16 (R280). -/
def execJm (d : Word) (s : State) : Answer := .next (s.jumpIf .m d)

/-- CALL a16 (R281). -/
def execCall (d : Word) (s : State) : Answer := .next (s.callTo (s.pc + 3) d)

/-- CNZ a16 (R282). -/
def execCnz (d : Word) (s : State) : Answer := .next (s.callIf .nz d)

/-- CZ a16 (R283). -/
def execCz (d : Word) (s : State) : Answer := .next (s.callIf .z d)

/-- CNC a16 (R284). -/
def execCnc (d : Word) (s : State) : Answer := .next (s.callIf .nc d)

/-- CC a16 (R285). -/
def execCc (d : Word) (s : State) : Answer := .next (s.callIf .c d)

/-- CPO a16 (R286). -/
def execCpo (d : Word) (s : State) : Answer := .next (s.callIf .po d)

/-- CPE a16 (R287). -/
def execCpe (d : Word) (s : State) : Answer := .next (s.callIf .pe d)

/-- CP a16 (R288). -/
def execCp (d : Word) (s : State) : Answer := .next (s.callIf .p d)

/-- CM a16 (R289). -/
def execCm (d : Word) (s : State) : Answer := .next (s.callIf .m d)

/-- RET (R290). -/
def execRet (s : State) : Answer := .next (s.returnToCaller)

/-- RNZ (R291). -/
def execRnz (s : State) : Answer := .next (s.returnIf .nz)

/-- RZ (R292). -/
def execRz (s : State) : Answer := .next (s.returnIf .z)

/-- RNC (R293). -/
def execRnc (s : State) : Answer := .next (s.returnIf .nc)

/-- RC (R294). -/
def execRc (s : State) : Answer := .next (s.returnIf .c)

/-- RPO (R295). -/
def execRpo (s : State) : Answer := .next (s.returnIf .po)

/-- RPE (R296). -/
def execRpe (s : State) : Answer := .next (s.returnIf .pe)

/-- RP (R297). -/
def execRp (s : State) : Answer := .next (s.returnIf .p)

/-- RM (R298). -/
def execRm (s : State) : Answer := .next (s.returnIf .m)

/-- RST 0 (R299). -/
def execRst0 (s : State) : Answer := .next (s.restart 0)

/-- RST 1 (R299). -/
def execRst1 (s : State) : Answer := .next (s.restart 1)

/-- RST 2 (R299). -/
def execRst2 (s : State) : Answer := .next (s.restart 2)

/-- RST 3 (R299). -/
def execRst3 (s : State) : Answer := .next (s.restart 3)

/-- RST 4 (R299). -/
def execRst4 (s : State) : Answer := .next (s.restart 4)

/-- RST 5 (R299). -/
def execRst5 (s : State) : Answer := .next (s.restart 5)

/-- RST 6 (R299). -/
def execRst6 (s : State) : Answer := .next (s.restart 6)

/-- RST 7 (R299). -/
def execRst7 (s : State) : Answer := .next (s.restart 7)

/-- PCHL (R300). -/
def execPchl (s : State) : Answer := .next (s.setPc (s.getPair .hl))

end Sys2Proof.Machine
end

