-- ==== Sys2Proof/Machine/DataMovement.lean ====
section
/-! DEFINITION. The data movement instructions (spec 40, R120 to R134). None writes a flag or INTE; each advances PC by its
length (R121). -/

namespace Sys2Proof.Machine

/-- `x[DDD] <- x[SSS]` (R122). -/
def State.movReg (s : State) (dst src : Reg) : State := (s.setReg dst (s.getReg src)).advance 1

/-- `x[DDD] <- MemRead(pair(HL), 1)` (R123). -/
def State.movFromM (s : State) (dst : Reg) : State := (s.setReg dst (s.readByte s.mAddr)).advance 1

/-- `MemWrite(pair(HL), 1, x[SSS])` (R124). -/
def State.movToM (s : State) (src : Reg) : State := (s.writeByte s.mAddr (s.getReg src)).advance 1

/-- `x[DDD] <- imm8` (R125). -/
def State.mviReg (s : State) (dst : Reg) (v : Byte) : State := (s.setReg dst v).advance 2

/-- `pair(RP) <- imm16` (R127). -/
def State.lxi (s : State) (rp : Pair) (v : Word) : State := (s.setPair rp v).advance 3

/-- `A <- MemRead(addr, 1)`, for LDA and LDAX (R128, R132). -/
def State.loadA (s : State) (addr : Word) (len : Word) : State := (s.setReg .a (s.readByte addr)).advance len

/-- `MemWrite(addr, 1, A)`, for STA and STAX (R129, R133). -/
def State.storeA (s : State) (addr : Word) (len : Word) : State := (s.writeByte addr s.regs.a).advance len

/-- MOV B,B (R122). -/
def execMovBB (s : State) : Answer := .next (s.movReg .b .b)

/-- MOV B,C (R122). -/
def execMovBC (s : State) : Answer := .next (s.movReg .b .c)

/-- MOV B,D (R122). -/
def execMovBD (s : State) : Answer := .next (s.movReg .b .d)

/-- MOV B,E (R122). -/
def execMovBE (s : State) : Answer := .next (s.movReg .b .e)

/-- MOV B,H (R122). -/
def execMovBH (s : State) : Answer := .next (s.movReg .b .h)

/-- MOV B,L (R122). -/
def execMovBL (s : State) : Answer := .next (s.movReg .b .l)

/-- MOV B,M (R123). -/
def execMovBM (s : State) : Answer := .next (s.movFromM .b)

/-- MOV B,A (R122). -/
def execMovBA (s : State) : Answer := .next (s.movReg .b .a)

/-- MOV C,B (R122). -/
def execMovCB (s : State) : Answer := .next (s.movReg .c .b)

/-- MOV C,C (R122). -/
def execMovCC (s : State) : Answer := .next (s.movReg .c .c)

/-- MOV C,D (R122). -/
def execMovCD (s : State) : Answer := .next (s.movReg .c .d)

/-- MOV C,E (R122). -/
def execMovCE (s : State) : Answer := .next (s.movReg .c .e)

/-- MOV C,H (R122). -/
def execMovCH (s : State) : Answer := .next (s.movReg .c .h)

/-- MOV C,L (R122). -/
def execMovCL (s : State) : Answer := .next (s.movReg .c .l)

/-- MOV C,M (R123). -/
def execMovCM (s : State) : Answer := .next (s.movFromM .c)

/-- MOV C,A (R122). -/
def execMovCA (s : State) : Answer := .next (s.movReg .c .a)

/-- MOV D,B (R122). -/
def execMovDB (s : State) : Answer := .next (s.movReg .d .b)

/-- MOV D,C (R122). -/
def execMovDC (s : State) : Answer := .next (s.movReg .d .c)

/-- MOV D,D (R122). -/
def execMovDD (s : State) : Answer := .next (s.movReg .d .d)

/-- MOV D,E (R122). -/
def execMovDE (s : State) : Answer := .next (s.movReg .d .e)

/-- MOV D,H (R122). -/
def execMovDH (s : State) : Answer := .next (s.movReg .d .h)

/-- MOV D,L (R122). -/
def execMovDL (s : State) : Answer := .next (s.movReg .d .l)

/-- MOV D,M (R123). -/
def execMovDM (s : State) : Answer := .next (s.movFromM .d)

/-- MOV D,A (R122). -/
def execMovDA (s : State) : Answer := .next (s.movReg .d .a)

/-- MOV E,B (R122). -/
def execMovEB (s : State) : Answer := .next (s.movReg .e .b)

/-- MOV E,C (R122). -/
def execMovEC (s : State) : Answer := .next (s.movReg .e .c)

/-- MOV E,D (R122). -/
def execMovED (s : State) : Answer := .next (s.movReg .e .d)

/-- MOV E,E (R122). -/
def execMovEE (s : State) : Answer := .next (s.movReg .e .e)

/-- MOV E,H (R122). -/
def execMovEH (s : State) : Answer := .next (s.movReg .e .h)

/-- MOV E,L (R122). -/
def execMovEL (s : State) : Answer := .next (s.movReg .e .l)

/-- MOV E,M (R123). -/
def execMovEM (s : State) : Answer := .next (s.movFromM .e)

/-- MOV E,A (R122). -/
def execMovEA (s : State) : Answer := .next (s.movReg .e .a)

/-- MOV H,B (R122). -/
def execMovHB (s : State) : Answer := .next (s.movReg .h .b)

/-- MOV H,C (R122). -/
def execMovHC (s : State) : Answer := .next (s.movReg .h .c)

/-- MOV H,D (R122). -/
def execMovHD (s : State) : Answer := .next (s.movReg .h .d)

/-- MOV H,E (R122). -/
def execMovHE (s : State) : Answer := .next (s.movReg .h .e)

/-- MOV H,H (R122). -/
def execMovHH (s : State) : Answer := .next (s.movReg .h .h)

/-- MOV H,L (R122). -/
def execMovHL (s : State) : Answer := .next (s.movReg .h .l)

/-- MOV H,M (R123). -/
def execMovHM (s : State) : Answer := .next (s.movFromM .h)

/-- MOV H,A (R122). -/
def execMovHA (s : State) : Answer := .next (s.movReg .h .a)

/-- MOV L,B (R122). -/
def execMovLB (s : State) : Answer := .next (s.movReg .l .b)

/-- MOV L,C (R122). -/
def execMovLC (s : State) : Answer := .next (s.movReg .l .c)

/-- MOV L,D (R122). -/
def execMovLD (s : State) : Answer := .next (s.movReg .l .d)

/-- MOV L,E (R122). -/
def execMovLE (s : State) : Answer := .next (s.movReg .l .e)

/-- MOV L,H (R122). -/
def execMovLH (s : State) : Answer := .next (s.movReg .l .h)

/-- MOV L,L (R122). -/
def execMovLL (s : State) : Answer := .next (s.movReg .l .l)

/-- MOV L,M (R123). -/
def execMovLM (s : State) : Answer := .next (s.movFromM .l)

/-- MOV L,A (R122). -/
def execMovLA (s : State) : Answer := .next (s.movReg .l .a)

/-- MOV A,B (R122). -/
def execMovAB (s : State) : Answer := .next (s.movReg .a .b)

/-- MOV A,C (R122). -/
def execMovAC (s : State) : Answer := .next (s.movReg .a .c)

/-- MOV A,D (R122). -/
def execMovAD (s : State) : Answer := .next (s.movReg .a .d)

/-- MOV A,E (R122). -/
def execMovAE (s : State) : Answer := .next (s.movReg .a .e)

/-- MOV A,H (R122). -/
def execMovAH (s : State) : Answer := .next (s.movReg .a .h)

/-- MOV A,L (R122). -/
def execMovAL (s : State) : Answer := .next (s.movReg .a .l)

/-- MOV A,M (R123). -/
def execMovAM (s : State) : Answer := .next (s.movFromM .a)

/-- MOV A,A (R122). -/
def execMovAA (s : State) : Answer := .next (s.movReg .a .a)

/-- MOV M,B (R124). -/
def execMovMB (s : State) : Answer := .next (s.movToM .b)

/-- MOV M,C (R124). -/
def execMovMC (s : State) : Answer := .next (s.movToM .c)

/-- MOV M,D (R124). -/
def execMovMD (s : State) : Answer := .next (s.movToM .d)

/-- MOV M,E (R124). -/
def execMovME (s : State) : Answer := .next (s.movToM .e)

/-- MOV M,H (R124). -/
def execMovMH (s : State) : Answer := .next (s.movToM .h)

/-- MOV M,L (R124). -/
def execMovML (s : State) : Answer := .next (s.movToM .l)

/-- MOV M,A (R124). -/
def execMovMA (s : State) : Answer := .next (s.movToM .a)

/-- MVI B,d8 (R125). -/
def execMviB (d : Byte) (s : State) : Answer := .next (s.mviReg .b d)

/-- MVI C,d8 (R125). -/
def execMviC (d : Byte) (s : State) : Answer := .next (s.mviReg .c d)

/-- MVI D,d8 (R125). -/
def execMviD (d : Byte) (s : State) : Answer := .next (s.mviReg .d d)

/-- MVI E,d8 (R125). -/
def execMviE (d : Byte) (s : State) : Answer := .next (s.mviReg .e d)

/-- MVI H,d8 (R125). -/
def execMviH (d : Byte) (s : State) : Answer := .next (s.mviReg .h d)

/-- MVI L,d8 (R125). -/
def execMviL (d : Byte) (s : State) : Answer := .next (s.mviReg .l d)

/-- MVI A,d8 (R125). -/
def execMviA (d : Byte) (s : State) : Answer := .next (s.mviReg .a d)

/-- MVI M,d8 (R126). -/
def execMviM (d : Byte) (s : State) : Answer := .next ((s.writeByte s.mAddr d).advance 2)

/-- LXI B,d16 (R127). -/
def execLxiB (d : Word) (s : State) : Answer := .next (s.lxi .bc d)

/-- LXI D,d16 (R127). -/
def execLxiD (d : Word) (s : State) : Answer := .next (s.lxi .de d)

/-- LXI H,d16 (R127). -/
def execLxiH (d : Word) (s : State) : Answer := .next (s.lxi .hl d)

/-- LXI SP,d16 (R127). -/
def execLxiSP (d : Word) (s : State) : Answer := .next (s.lxi .sp d)

/-- LDA a16 (R128). -/
def execLda (d : Word) (s : State) : Answer := .next (s.loadA d 3)

/-- STA a16 (R129). -/
def execSta (d : Word) (s : State) : Answer := .next (s.storeA d 3)

/-- LHLD a16 (R130). -/
def execLhld (d : Word) (s : State) : Answer := .next ((s.setPair .hl (s.readWord d)).advance 3)

/-- SHLD a16 (R131). -/
def execShld (d : Word) (s : State) : Answer := .next ((s.writeWord d (s.getPair .hl)).advance 3)

/-- LDAX B (R132). -/
def execLdaxB (s : State) : Answer := .next (s.loadA (s.getPair .bc) 1)

/-- LDAX D (R132). -/
def execLdaxD (s : State) : Answer := .next (s.loadA (s.getPair .de) 1)

/-- STAX B (R133). -/
def execStaxB (s : State) : Answer := .next (s.storeA (s.getPair .bc) 1)

/-- STAX D (R133). -/
def execStaxD (s : State) : Answer := .next (s.storeA (s.getPair .de) 1)

/-- XCHG (R134). -/
def execXchg (s : State) : Answer := .next (((s.setPair .hl (s.getPair .de)).setPair .de (s.getPair .hl)).advance 1)

end Sys2Proof.Machine
end

