-- ==== Sys2Proof/Machine/Logical.lean ====
section
/-! DEFINITION. The logical, compare, rotate, decimal-adjust and carry instructions (spec 42, R200 to R221). -/

namespace Sys2Proof.Machine

/-- ANA, ANI (R201 to R203). -/
def State.ana (s : State) (x : Src) : State := s.accumulate (and8 s.regs.a (s.src x)) x.length

/-- XRA, XRI (R204 to R206). -/
def State.xra (s : State) (x : Src) : State := s.accumulate (xor8 s.regs.a (s.src x)) x.length

/-- ORA, ORI (R207 to R209). -/
def State.ora (s : State) (x : Src) : State := s.accumulate (or8 s.regs.a (s.src x)) x.length

/-- CMP, CPI: the flags of a subtraction, A kept (R210 to R212). -/
def State.cmp (s : State) (x : Src) : State :=
  (s.setFlags (sub8 s.regs.a (s.src x) false).flags).advance x.length

/-- A rotate: A and CY take the rotated pair, the other flags are kept (R213). -/
def State.rotate (s : State) (r : Byte × Bool) : State := ((s.setReg .a r.1).setCarry r.2).advance 1

/-- ANA B (R201). -/
def execAnaB (s : State) : Answer := .next (s.ana (.reg .b))

/-- ANA C (R201). -/
def execAnaC (s : State) : Answer := .next (s.ana (.reg .c))

/-- ANA D (R201). -/
def execAnaD (s : State) : Answer := .next (s.ana (.reg .d))

/-- ANA E (R201). -/
def execAnaE (s : State) : Answer := .next (s.ana (.reg .e))

/-- ANA H (R201). -/
def execAnaH (s : State) : Answer := .next (s.ana (.reg .h))

/-- ANA L (R201). -/
def execAnaL (s : State) : Answer := .next (s.ana (.reg .l))

/-- ANA M (R202). -/
def execAnaM (s : State) : Answer := .next (s.ana .m)

/-- ANA A (R201). -/
def execAnaA (s : State) : Answer := .next (s.ana (.reg .a))

/-- ANI d8 (R203). -/
def execAni (d : Byte) (s : State) : Answer := .next (s.ana (.imm d))

/-- XRA B (R204). -/
def execXraB (s : State) : Answer := .next (s.xra (.reg .b))

/-- XRA C (R204). -/
def execXraC (s : State) : Answer := .next (s.xra (.reg .c))

/-- XRA D (R204). -/
def execXraD (s : State) : Answer := .next (s.xra (.reg .d))

/-- XRA E (R204). -/
def execXraE (s : State) : Answer := .next (s.xra (.reg .e))

/-- XRA H (R204). -/
def execXraH (s : State) : Answer := .next (s.xra (.reg .h))

/-- XRA L (R204). -/
def execXraL (s : State) : Answer := .next (s.xra (.reg .l))

/-- XRA M (R205). -/
def execXraM (s : State) : Answer := .next (s.xra .m)

/-- XRA A (R204). -/
def execXraA (s : State) : Answer := .next (s.xra (.reg .a))

/-- XRI d8 (R206). -/
def execXri (d : Byte) (s : State) : Answer := .next (s.xra (.imm d))

/-- ORA B (R207). -/
def execOraB (s : State) : Answer := .next (s.ora (.reg .b))

/-- ORA C (R207). -/
def execOraC (s : State) : Answer := .next (s.ora (.reg .c))

/-- ORA D (R207). -/
def execOraD (s : State) : Answer := .next (s.ora (.reg .d))

/-- ORA E (R207). -/
def execOraE (s : State) : Answer := .next (s.ora (.reg .e))

/-- ORA H (R207). -/
def execOraH (s : State) : Answer := .next (s.ora (.reg .h))

/-- ORA L (R207). -/
def execOraL (s : State) : Answer := .next (s.ora (.reg .l))

/-- ORA M (R208). -/
def execOraM (s : State) : Answer := .next (s.ora .m)

/-- ORA A (R207). -/
def execOraA (s : State) : Answer := .next (s.ora (.reg .a))

/-- ORI d8 (R209). -/
def execOri (d : Byte) (s : State) : Answer := .next (s.ora (.imm d))

/-- CMP B (R210). -/
def execCmpB (s : State) : Answer := .next (s.cmp (.reg .b))

/-- CMP C (R210). -/
def execCmpC (s : State) : Answer := .next (s.cmp (.reg .c))

/-- CMP D (R210). -/
def execCmpD (s : State) : Answer := .next (s.cmp (.reg .d))

/-- CMP E (R210). -/
def execCmpE (s : State) : Answer := .next (s.cmp (.reg .e))

/-- CMP H (R210). -/
def execCmpH (s : State) : Answer := .next (s.cmp (.reg .h))

/-- CMP L (R210). -/
def execCmpL (s : State) : Answer := .next (s.cmp (.reg .l))

/-- CMP M (R211). -/
def execCmpM (s : State) : Answer := .next (s.cmp .m)

/-- CMP A (R210). -/
def execCmpA (s : State) : Answer := .next (s.cmp (.reg .a))

/-- CPI d8 (R212). -/
def execCpi (d : Byte) (s : State) : Answer := .next (s.cmp (.imm d))

/-- RLC (R214). -/
def execRlc (s : State) : Answer := .next (s.rotate (rlc8 s.regs.a))

/-- RRC (R215). -/
def execRrc (s : State) : Answer := .next (s.rotate (rrc8 s.regs.a))

/-- RAL (R216). -/
def execRal (s : State) : Answer := .next (s.rotate (ral8 s.regs.a s.flags.cy))

/-- RAR (R217). -/
def execRar (s : State) : Answer := .next (s.rotate (rar8 s.regs.a s.flags.cy))

/-- DAA (R218). -/
def execDaa (s : State) : Answer := .next (s.accumulate (daa8 s.regs.a s.flags.ac s.flags.cy) 1)

/-- CMA (R219). -/
def execCma (s : State) : Answer := .next ((s.setReg .a (~~~s.regs.a)).advance 1)

/-- STC (R220). -/
def execStc (s : State) : Answer := .next ((s.setCarry true).advance 1)

/-- CMC (R221). -/
def execCmc (s : State) : Answer := .next ((s.setCarry (!s.flags.cy)).advance 1)

end Sys2Proof.Machine
end

