-- ==== Sys2Proof/Machine/Stack.lean ====
section
/-! DEFINITION. The stack instructions (spec 43, R250 to R259). -/

namespace Sys2Proof.Machine

/-- `push16(pair(RP))` (R254). -/
def State.push (s : State) (rp : Pair) : State := (s.push16 (s.getPair rp)).advance 1

/-- `pair(RP) <- pop16()` (R256). -/
def State.pop (s : State) (rp : Pair) : State := (s.popStack.setPair rp s.popValue).advance 1

/-- PUSH B (R254). -/
def execPushB (s : State) : Answer := .next (s.push .bc)

/-- PUSH D (R254). -/
def execPushD (s : State) : Answer := .next (s.push .de)

/-- PUSH H (R254). -/
def execPushH (s : State) : Answer := .next (s.push .hl)

/-- PUSH PSW (R255). -/
def execPushPSW (s : State) : Answer := .next ((s.push16 (wordOf s.regs.a s.flags.pack)).advance 1)

/-- POP B (R256). -/
def execPopB (s : State) : Answer := .next (s.pop .bc)

/-- POP D (R256). -/
def execPopD (s : State) : Answer := .next (s.pop .de)

/-- POP H (R256). -/
def execPopH (s : State) : Answer := .next (s.pop .hl)

/-- POP PSW (R257). -/
def execPopPSW (s : State) : Answer := .next (((s.popStack.setReg .a (hiByte s.popValue)).setFlags (.unpack (loByte s.popValue))).advance 1)

/-- XTHL (R258). -/
def execXthl (s : State) : Answer := .next (((s.writeWord s.sp (s.getPair .hl)).setPair .hl (s.readWord s.sp)).advance 1)

/-- SPHL (R259). -/
def execSphl (s : State) : Answer := .next ((s.setSp (s.getPair .hl)).advance 1)

end Sys2Proof.Machine
end

