-- ==== Sys2Proof/Machine/Ports.lean ====
section
/-! DEFINITION. The I/O interface IoRead and IoWrite (spec 20 R65) and what the platform's port bridge does behind it
(60 R440 to R446). With no bridge attached (log 5) the environment answers every IN with a free byte (00 R11). -/

namespace Sys2Proof.Machine

/-- The window of the shift register that port 3 reads: `(shift_reg >> (8 - shift_offset)) & 0xFF` (R443). -/
def PortBridge.shiftWindow (b : PortBridge) : Byte := loByte (b.shiftReg >>> (8 - b.shiftOffset.toNat))

/-- The input ports the bridge answers (R441, R442, R443); `none` for every other port (R446). -/
def PortBridge.input (b : PortBridge) (port : Byte) : Option Byte :=
  if port = 1 then some (b.in1 ||| 0x08)
  else if port = 2 then some b.in2
  else if port = 3 then some b.shiftWindow
  else none

/-- What an output does to the bridge's own state (R444): port 2 sets the shift offset, port 4 shifts the byte in. -/
def PortBridge.output (b : PortBridge) (port v : Byte) : PortBridge :=
  if port = 2 then { b with shiftOffset := v.setWidth 3 }
  else if port = 4 then { b with shiftReg := wordOf v (hiByte b.shiftReg) }
  else b

/-- Draws up to `n` elements of a list, each once, in the order these choices give. Every order is one of some choices. -/
def arrange {α : Type} (choice : Nat → Nat) : Nat → List α → List α
  | 0, _ => []
  | n + 1, xs =>
    match xs[choice n % xs.length]? with
    | some x => x :: arrange choice n (xs.eraseIdx (choice n % xs.length))
    | none => []

/-- The sounds of a port (R444). -/
def portSounds (port : Byte) : List Sound :=
  if port = 3 then Config.port3Sounds else if port = 5 then Config.port5Sounds else []

/-- Parameter `sound_map` for a port (00 R11, R444, R445): each designated bit with its one sound event, different bits
for different sounds (log 10). -/
def soundMap (port : Byte) : List (BitVec 3 × Sound) :=
  (arrange (Config.soundChoice port) (portSounds port).length [0, 1, 2, 3, 4, 5, 6, 7]).zip (portSounds port)

/-- The sound events of an output, one for every designated bit that is 1 in the written byte, whatever was written
before (R444, R445). -/
def triggeredSounds (port v : Byte) : List Sound :=
  ((soundMap port).filter fun x => v.getLsbD x.1.toNat).map Prod.snd

/-- Those events in the order in which this environment plays them (log 10). -/
def Env.playedSounds (e : Env) (port v : Byte) : List Sound :=
  arrange (Config.playChoice e) (triggeredSounds port v).length (triggeredSounds port v)

/-- The answer the platform settles for this port, if it settles one. -/
def Env.settledInput (e : Env) (port : Byte) : Option Byte :=
  match e.bridge with
  | some b => b.input port
  | none => none

/-- IoRead(port), the byte read (R65): the platform's answer, or the free byte of the environment in its present state
(R446; log 7). -/
def State.ioReadValue (s : State) (port : Byte) : Byte :=
  match s.env.settledInput port with
  | some v => v
  | none => Config.ioIn s.env port

/-- IoRead(port), what it does to the environment: a free byte once drawn is not drawn again (log 7). -/
def State.ioReadState (s : State) (port : Byte) : State :=
  match s.env.settledInput port with
  | some _ => s
  | none => s.setEnv { s.env with draws := s.env.draws + 1 }

/-- IoWrite(port, v) (R65): the pair is delivered, and the bridge, if there is one, acts on it at once. -/
def State.ioWrite (s : State) (port v : Byte) : State :=
  let e := { s.env with outputs := s.env.outputs ++ [(port, v)] }
  match s.env.bridge with
  | some b => s.setEnv { e with bridge := some (b.output port v), plays := e.plays ++ s.env.playedSounds port v }
  | none => s.setEnv e

end Sys2Proof.Machine
end

