-- ==== Sys2Proof/Machine/SystemIO.lean ====
section
/-! DEFINITION. NOP, HLT, IN, OUT, EI, DI and the twelve unimplemented byte values (spec 45, R320 to R326). -/

namespace Sys2Proof.Machine

/-- NOP (R320). -/
def execNop (s : State) : Answer := .next (s.advance 1)

/-- HLT (R321). -/
def execHlt (s : State) : Answer := .next ((s.advance 1).setStatus .halted)

/-- IN d8 (R322). -/
def execInPort (d : Byte) (s : State) : Answer := .next (((s.ioReadState d).setReg .a (s.ioReadValue d)).advance 2)

/-- OUT d8 (R323). -/
def execOutPort (d : Byte) (s : State) : Answer := .next ((s.ioWrite d s.regs.a).advance 2)

/-- EI (R324). -/
def execEi (s : State) : Answer := .next ((s.setInte true).advance 1)

/-- DI (R325). -/
def execDi (s : State) : Answer := .next ((s.setInte false).advance 1)

/-- (unimplemented 0x08) (R326). -/
def execUnimplemented08 (s : State) : Answer := .next (s.raiseUnimplemented 0x08)

/-- (unimplemented 0x10) (R326). -/
def execUnimplemented10 (s : State) : Answer := .next (s.raiseUnimplemented 0x10)

/-- (unimplemented 0x18) (R326). -/
def execUnimplemented18 (s : State) : Answer := .next (s.raiseUnimplemented 0x18)

/-- (unimplemented 0x20) (R326). -/
def execUnimplemented20 (s : State) : Answer := .next (s.raiseUnimplemented 0x20)

/-- (unimplemented 0x28) (R326). -/
def execUnimplemented28 (s : State) : Answer := .next (s.raiseUnimplemented 0x28)

/-- (unimplemented 0x30) (R326). -/
def execUnimplemented30 (s : State) : Answer := .next (s.raiseUnimplemented 0x30)

/-- (unimplemented 0x38) (R326). -/
def execUnimplemented38 (s : State) : Answer := .next (s.raiseUnimplemented 0x38)

/-- (unimplemented 0xCB) (R326). -/
def execUnimplementedCB (s : State) : Answer := .next (s.raiseUnimplemented 0xCB)

/-- (unimplemented 0xD9) (R326). -/
def execUnimplementedD9 (s : State) : Answer := .next (s.raiseUnimplemented 0xD9)

/-- (unimplemented 0xDD) (R326). -/
def execUnimplementedDD (s : State) : Answer := .next (s.raiseUnimplemented 0xDD)

/-- (unimplemented 0xED) (R326). -/
def execUnimplementedED (s : State) : Answer := .next (s.raiseUnimplemented 0xED)

/-- (unimplemented 0xFD) (R326). -/
def execUnimplementedFD (s : State) : Answer := .next (s.raiseUnimplemented 0xFD)

end Sys2Proof.Machine
end

