-- ==== Sys2Proof/Machine/Fetch.lean ====
section
/-! DEFINITION. Fetching the instruction at PC (spec 20 R64, 30 R99) and an Execute step (60 R404). -/

namespace Sys2Proof.Machine

/-- The bytes of the instruction at PC: the opcode, then as many more as it fixes, each address wrapping (R64, R35,
R90). -/
def State.fetchBytes (s : State) : List Byte :=
  (List.range (opLength (s.readByte s.pc))).map fun k => s.readByte (s.pc + BitVec.ofNat 16 k)

/-- The instruction at PC. Every byte value is an opcode, so there always is one (R107). Bytes past the instruction's
length are not fetched. -/
def State.fetch (s : State) : Instr :=
  let bytes := s.fetchBytes
  decodeOpcode (s.readByte s.pc) (bytes.getD 1 0) (wordOf (bytes.getD 2 0) (bytes.getD 1 0))

/-- An Execute step: every byte is fetched before the instruction changes any state (R64, R404). -/
def State.execute (s : State) : Answer := exec s.fetch s

/-- Stores an instruction, given as the opcode table's word, where the next fetch reads it, and leaves nothing else for
the environment to do at the boundary, so that the next step executes it. -/
def State.placeInstruction (s : State) (nbits w : Nat) : State :=
  { s with
    mem := s.mem.load s.pc (tableWordBytes nbits w)
    status := .running
    env := { s.env with events := [], later := .execute } }

end Sys2Proof.Machine
end

