-- ==== Sys2Proof/Machine/Environment.lean ====
section
/-! DEFINITION. What happens at an instruction boundary (spec 60 R404, R405): an Execute step, a Deliver step, or an
act of the environment (R436, R447, R453). What the environment chooses stands in the state (log 6). -/

namespace Sys2Proof.Machine

/-- The vector numbers of the platform (60 R436). -/
def VideoVector.number : VideoVector → BitVec 3
  | .midScreen => 1
  | .verticalBlank => 2

/-- The vectors alternate (60 R436). -/
def VideoVector.other : VideoVector → VideoVector
  | .midScreen => .verticalBlank
  | .verticalBlank => .midScreen

/-- The clock as the host supplies it to an iteration: it never goes back (60 R436, R447). -/
def Scheduler.read (c : Scheduler) (x : HostSample) : Scheduler := { c with clock := c.clock + x.elapsed }

/-- The deadline is due: the clock has reached it (60 R436; log 11). -/
def Scheduler.due (c : Scheduler) : Bool := decide (c.deadline ≤ c.clock)

/-- The scheduler after the comparison: at every due deadline, taken or not, the vector alternates and the deadline
moves by the fixed interval (60 R436). -/
def Scheduler.after (c : Scheduler) : Scheduler :=
  if c.due then { c with nextVector := c.nextVector.other, deadline := c.deadline + Config.interruptInterval } else c

/-- The interrupt of a due deadline, and after a vertical-blank one the renderer's read (60 R436, D26). -/
def Scheduler.interruptEvents (c : Scheduler) : List Event :=
  if c.due then
    match c.nextVector with
    | .midScreen => [.request c.nextVector.number]
    | .verticalBlank => [.request c.nextVector.number, .render]
  else []

/-- The boundary events of the rest of an iteration: the interrupt if due, the batch, the quit check (60 R436). -/
def Scheduler.iterationEvents (c : Scheduler) (quit : Bool) : List Event :=
  c.interruptEvents ++ List.replicate Config.batchLength .execute ++ (if quit then [.quit] else [])

/-- The input collaborator's write of in1 (R447); without a bridge there is no latch. -/
def Env.writeIn1 (e : Env) (v : Byte) : Env := { e with bridge := e.bridge.map fun b => { b with in1 := v } }

/-- The input collaborator's write of in2 (R447); without a bridge there is no latch. -/
def Env.writeIn2 (e : Env) (v : Byte) : Env := { e with bridge := e.bridge.map fun b => { b with in2 := v } }

/-- The start of an iteration: the input latches are sampled, the clock is compared, and what the iteration then does
stands before whatever else is to come (60 R436). -/
def Env.iterate (e : Env) (x : HostSample) : Env :=
  { (e.writeIn1 x.in1).writeIn2 x.in2 with
    scheduler := (e.scheduler.read x).after
    events := (e.scheduler.read x).iterationEvents x.quit ++ e.events }

/-- A boundary at which the environment requests an interrupt, or does not (00 R11 `irq`). -/
def Event.ofRequest : Option (BitVec 3) → Event
  | none => .execute
  | some v => .request v

/-- What the environment presents at this boundary: the first listed event, and past the list what its schedule gives
(60 R405; log 6). -/
def Env.presents (e : Env) : Event :=
  match e.events with
  | x :: _ => x
  | [] =>
    match e.later with
    | .execute => .execute
    | .requests _ => .ofRequest (Config.irq e)
    | .loop _ => .iterate (Config.hostSample e)

/-- The environment once it has presented it. -/
def Env.spent (e : Env) : Env :=
  match e.events with
  | _ :: xs => { e with events := xs }
  | [] =>
    match e.later with
    | .execute => e
    | .requests n => { e with later := .requests (n + 1) }
    | .loop n => { e with later := .loop (n + 1) }

/-- The step that an event is. -/
def State.perform (s : State) : Event → Answer
  | .execute => s.execute
  | .request v => .next (s.deliver v)
  | .writeIn1 v => .next (s.setEnv (s.env.writeIn1 v))
  | .writeIn2 v => .next (s.setEnv (s.env.writeIn2 v))
  | .render => .next (s.setEnv { s.env with rendered := some s.mem })
  | .iterate x => .next (s.setEnv (s.env.iterate x))
  | .quit => .fault .quit

/-- The state once the environment has presented what it presents at this boundary. -/
def State.presented (s : State) : State := s.setEnv s.env.spent

/-- The step of a running core: what the environment presents, which is thereby spent. -/
def State.boundary (s : State) : Answer := s.presented.perform s.env.presents

end Sys2Proof.Machine
end

