-- ==== Sys2Proof/Machine/Step.lean ====
section
/-! DEFINITION. One step of the machine (spec 60 R404), and the placing of an instruction for the next step. -/

namespace Sys2Proof.Machine

/-- One step (R404). A step exists only while the status is Running (R40, R401, R402). -/
def step (s : State) : Host.Outcome State Fault Refusal :=
  match s.status with
  | .running => s.boundary
  | .halted => .fault .halted
  | .faulted op pc => .fault (.unimplementedOpcode op pc)

/-- The state with the opcode table's word `w` of `nbits` bits as the instruction that the next step runs. -/
def State.withFetchWord (s : State) (nbits w : Nat) : State := s.placeInstruction nbits w

end Sys2Proof.Machine
end

