-- ==== Sys2Proof/Machine/Boot.lean ====
section
/-! DEFINITION. The start of a run with the parameters the spec leaves open (spec 00 R11, 70 R500 to R503). -/

namespace Sys2Proof.Machine

/-- The named parameters of 00 R11 that a start of the machine takes. The free values `io_in`, `sound_map` and
`irq` are in Config. -/
structure InitParams where
  /-- `init_regs`. -/
  regs : Regs
  sp : Word
  flags : Flags
  /-- Whether the platform's port bridge is attached, with `dip_switches`, or the core runs alone (log 5). -/
  platform : Bool
  dipSwitches : Byte
  /-- `irq`: what the environment presents at the coming boundaries (log 6). -/
  events : List Event
  /-- `irq` after those, without end: never a request, the free value `Config.irq`, or the scheduler's loop (log 6). -/
  later : Schedule
  /-- `first_vector`, the first deadline and the clock at the start (log 4). -/
  scheduler : Scheduler
  deriving DecidableEq, Repr

/-- The parameters `State.reset` names (logs 1, 3, 4, 5 and 6). -/
def InitParams.named : InitParams :=
  { regs := .zero
    sp := 0
    flags := .zero
    platform := true
    dipSwitches := 0x00
    events := []
    later := .execute
    scheduler := { nextVector := .midScreen, deadline := 0, clock := 0 } }

/-- The port state at the start (60 R440). -/
def PortBridge.initial (dipSwitches : Byte) : PortBridge :=
  { in1 := 0x08, in2 := dipSwitches, shiftReg := 0, shiftOffset := 0 }

/-- The reset state (70 R503) with an image loaded at address 0 over a zero memory (70 R501). -/
def State.initial (p : InitParams) (image : List Byte) : State :=
  { regs := p.regs
    sp := p.sp
    pc := 0
    flags := p.flags
    inte := false
    status := .running
    mem := Memory.load [] 0 image
    env :=
      { bridge := if p.platform then some (.initial p.dipSwitches) else none
        events := p.events
        later := p.later
        draws := 0
        outputs := []
        plays := []
        scheduler := p.scheduler
        rendered := none } }

/-- The start of a run: the host refuses an image over 65,536 bytes and the core does not start (70 R502). -/
def State.boot (p : InitParams) (image : List Byte) : Option State :=
  if image.length ≤ Config.memoryBytes then some (.initial p image) else none

end Sys2Proof.Machine
end

