-- ==== Sys2Proof/Machine/Forms.lean ====
section
/-! DEFINITION. The instruction families as functions of their operands, in the spec's own families: what a statement
about a whole family quantifies over. Every constructor of a family stands in its function. -/

namespace Sys2Proof.Machine

/-- MOV r1,r2, the 49 register forms (R122). -/
def Forms.mov : Reg → Reg → Instr
  | .b, .b => .movBB | .b, .c => .movBC | .b, .d => .movBD | .b, .e => .movBE | .b, .h => .movBH
  | .b, .l => .movBL | .b, .a => .movBA | .c, .b => .movCB | .c, .c => .movCC | .c, .d => .movCD
  | .c, .e => .movCE | .c, .h => .movCH | .c, .l => .movCL | .c, .a => .movCA | .d, .b => .movDB
  | .d, .c => .movDC | .d, .d => .movDD | .d, .e => .movDE | .d, .h => .movDH | .d, .l => .movDL
  | .d, .a => .movDA | .e, .b => .movEB | .e, .c => .movEC | .e, .d => .movED | .e, .e => .movEE
  | .e, .h => .movEH | .e, .l => .movEL | .e, .a => .movEA | .h, .b => .movHB | .h, .c => .movHC
  | .h, .d => .movHD | .h, .e => .movHE | .h, .h => .movHH | .h, .l => .movHL | .h, .a => .movHA
  | .l, .b => .movLB | .l, .c => .movLC | .l, .d => .movLD | .l, .e => .movLE | .l, .h => .movLH
  | .l, .l => .movLL | .l, .a => .movLA | .a, .b => .movAB | .a, .c => .movAC | .a, .d => .movAD
  | .a, .e => .movAE | .a, .h => .movAH | .a, .l => .movAL | .a, .a => .movAA

/-- MOV r,M (R123). -/
def Forms.movFromM : Reg → Instr
  | .b => .movBM | .c => .movCM | .d => .movDM | .e => .movEM | .h => .movHM | .l => .movLM | .a => .movAM

/-- MOV M,r (R124). -/
def Forms.movToM : Reg → Instr
  | .b => .movMB | .c => .movMC | .d => .movMD | .e => .movME | .h => .movMH | .l => .movML | .a => .movMA

/-- MVI r,d8 (R125). -/
def Forms.mvi (r : Reg) (d : Byte) : Instr :=
  match r with
  | .b => .mviB d | .c => .mviC d | .d => .mviD d | .e => .mviE d | .h => .mviH d | .l => .mviL d
  | .a => .mviA d

/-- LXI rp,d16 (R127). -/
def Forms.lxi (rp : Pair) (d : Word) : Instr :=
  match rp with
  | .bc => .lxiB d | .de => .lxiD d | .hl => .lxiH d | .sp => .lxiSP d

/-- INX rp (R164). -/
def Forms.inx : Pair → Instr
  | .bc => .inxB | .de => .inxD | .hl => .inxH | .sp => .inxSP

/-- DCX rp (R165). -/
def Forms.dcx : Pair → Instr
  | .bc => .dcxB | .de => .dcxD | .hl => .dcxH | .sp => .dcxSP

/-- DAD rp (R182). -/
def Forms.dad : Pair → Instr
  | .bc => .dadB | .de => .dadD | .hl => .dadH | .sp => .dadSP

/-- INR r (R166). -/
def Forms.inr : Reg → Instr
  | .b => .inrB | .c => .inrC | .d => .inrD | .e => .inrE | .h => .inrH | .l => .inrL | .a => .inrA

/-- DCR r (R168). -/
def Forms.dcr : Reg → Instr
  | .b => .dcrB | .c => .dcrC | .d => .dcrD | .e => .dcrE | .h => .dcrH | .l => .dcrL | .a => .dcrA

/-- ADD r, ADD M and ADI d8 (R170 to R172). -/
def Forms.add : Src → Instr
  | .reg .b => .addB | .reg .c => .addC | .reg .d => .addD | .reg .e => .addE | .reg .h => .addH
  | .reg .l => .addL | .reg .a => .addA | .m => .addM | .imm d => .adi d

/-- ADC r, ADC M and ACI d8 (R173 to R175). -/
def Forms.adc : Src → Instr
  | .reg .b => .adcB | .reg .c => .adcC | .reg .d => .adcD | .reg .e => .adcE | .reg .h => .adcH
  | .reg .l => .adcL | .reg .a => .adcA | .m => .adcM | .imm d => .aci d

/-- SUB r, SUB M and SUI d8 (R176 to R178). -/
def Forms.sub : Src → Instr
  | .reg .b => .subB | .reg .c => .subC | .reg .d => .subD | .reg .e => .subE | .reg .h => .subH
  | .reg .l => .subL | .reg .a => .subA | .m => .subM | .imm d => .sui d

/-- SBB r, SBB M and SBI d8 (R179 to R181). -/
def Forms.sbb : Src → Instr
  | .reg .b => .sbbB | .reg .c => .sbbC | .reg .d => .sbbD | .reg .e => .sbbE | .reg .h => .sbbH
  | .reg .l => .sbbL | .reg .a => .sbbA | .m => .sbbM | .imm d => .sbi d

/-- ANA r, ANA M and ANI d8 (R201 to R203). -/
def Forms.ana : Src → Instr
  | .reg .b => .anaB | .reg .c => .anaC | .reg .d => .anaD | .reg .e => .anaE | .reg .h => .anaH
  | .reg .l => .anaL | .reg .a => .anaA | .m => .anaM | .imm d => .ani d

/-- XRA r, XRA M and XRI d8 (R204 to R206). -/
def Forms.xra : Src → Instr
  | .reg .b => .xraB | .reg .c => .xraC | .reg .d => .xraD | .reg .e => .xraE | .reg .h => .xraH
  | .reg .l => .xraL | .reg .a => .xraA | .m => .xraM | .imm d => .xri d

/-- ORA r, ORA M and ORI d8 (R207 to R209). -/
def Forms.ora : Src → Instr
  | .reg .b => .oraB | .reg .c => .oraC | .reg .d => .oraD | .reg .e => .oraE | .reg .h => .oraH
  | .reg .l => .oraL | .reg .a => .oraA | .m => .oraM | .imm d => .ori d

/-- CMP r, CMP M and CPI d8 (R210 to R212). -/
def Forms.cmp : Src → Instr
  | .reg .b => .cmpB | .reg .c => .cmpC | .reg .d => .cmpD | .reg .e => .cmpE | .reg .h => .cmpH
  | .reg .l => .cmpL | .reg .a => .cmpA | .m => .cmpM | .imm d => .cpi d

/-- The flags an instruction writes, as 10 R36 lists them. -/
def flagsWritten : Instr → List Flag
  | .inrB | .dcrB | .inrC | .dcrC | .inrD | .dcrD | .inrE | .dcrE | .inrH | .dcrH | .inrL | .dcrL | .inrM
  | .dcrM | .inrA | .dcrA => [.z, .s, .p, .ac]
  | .daa | .addB | .addC | .addD | .addE | .addH | .addL | .addM | .addA | .adcB | .adcC | .adcD | .adcE
  | .adcH | .adcL | .adcM | .adcA | .subB | .subC | .subD | .subE | .subH | .subL | .subM | .subA | .sbbB
  | .sbbC | .sbbD | .sbbE | .sbbH | .sbbL | .sbbM | .sbbA | .anaB | .anaC | .anaD | .anaE | .anaH | .anaL
  | .anaM | .anaA | .xraB | .xraC | .xraD | .xraE | .xraH | .xraL | .xraM | .xraA | .oraB | .oraC | .oraD
  | .oraE | .oraH | .oraL | .oraM | .oraA | .cmpB | .cmpC | .cmpD | .cmpE | .cmpH | .cmpL | .cmpM | .cmpA
  | .adi _ | .aci _ | .sui _ | .sbi _ | .ani _ | .xri _ | .popPSW | .ori _
  | .cpi _ => [.z, .s, .p, .cy, .ac]
  | .rlc | .dadB | .rrc | .ral | .dadD | .rar | .dadH | .stc | .dadSP | .cmc => [.cy]
  | .nop | .lxiB _ | .staxB | .inxB | .mviB _ | .unimplemented08 | .ldaxB | .dcxB | .mviC _
  | .unimplemented10 | .lxiD _ | .staxD | .inxD | .mviD _ | .unimplemented18 | .ldaxD | .dcxD | .mviE _
  | .unimplemented20 | .lxiH _ | .shld _ | .inxH | .mviH _ | .unimplemented28 | .lhld _ | .dcxH | .mviL _
  | .cma | .unimplemented30 | .lxiSP _ | .sta _ | .inxSP | .mviM _ | .unimplemented38 | .lda _ | .dcxSP
  | .mviA _ | .movBB | .movBC | .movBD | .movBE | .movBH | .movBL | .movBM | .movBA | .movCB | .movCC
  | .movCD | .movCE | .movCH | .movCL | .movCM | .movCA | .movDB | .movDC | .movDD | .movDE | .movDH
  | .movDL | .movDM | .movDA | .movEB | .movEC | .movED | .movEE | .movEH | .movEL | .movEM | .movEA
  | .movHB | .movHC | .movHD | .movHE | .movHH | .movHL | .movHM | .movHA | .movLB | .movLC | .movLD
  | .movLE | .movLH | .movLL | .movLM | .movLA | .movMB | .movMC | .movMD | .movME | .movMH | .movML | .hlt
  | .movMA | .movAB | .movAC | .movAD | .movAE | .movAH | .movAL | .movAM | .movAA | .rnz | .popB | .jnz _
  | .jmp _ | .cnz _ | .pushB | .rst0 | .rz | .ret | .jz _ | .unimplementedCB | .cz _ | .call _ | .rst1
  | .rnc | .popD | .jnc _ | .outPort _ | .cnc _ | .pushD | .rst2 | .rc | .unimplementedD9 | .jc _
  | .inPort _ | .cc _ | .unimplementedDD | .rst3 | .rpo | .popH | .jpo _ | .xthl | .cpo _ | .pushH | .rst4
  | .rpe | .pchl | .jpe _ | .xchg | .cpe _ | .unimplementedED | .rst5 | .rp | .jp _ | .di | .cp _
  | .pushPSW | .rst6 | .rm | .sphl | .jm _ | .ei | .cm _ | .unimplementedFD | .rst7 => []

end Sys2Proof.Machine
end

