-- ==== Sys2Proof/Safety.lean ====
section
/-! DEFINITION. The terms the statements use: the invariant of the machine, completion of an instruction, what is
unchanged by one, and the flags that go with a result. -/

namespace Sys2Proof.Machine

/-- The machine's invariant: memory and what the renderer last read are canonical (20 R60), and a Faulted core stands
on the unimplemented opcode it reports, at PC (60 R400, 45 R326). -/
def State.Inv (s : State) : Prop :=
  s.mem.wf = true ∧
  (∀ m, s.env.rendered = some m → m.wf = true) ∧
  ∀ op pc, s.status = .faulted op pc → op ∈ unimplementedBytes ∧ pc = s.pc ∧ s.readByte pc = op

/-- The core runs and the environment presents no request and no act of its own, so the next step is an Execute step
(60 R404). -/
def State.AtBoundary (s : State) : Prop := s.status = .running ∧ s.env.presents = .execute

/-- Instruction `i` completes in state `s`, in a next state with property `P`. -/
def Completes (i : Instr) (s : State) (P : State → Prop) : Prop := ∃ t, exec i s = .next t ∧ P t

/-- Runs these instructions one after the other, each from the state the one before left. -/
def execAll : List Instr → State → Answer
  | [], s => .next s
  | i :: is, s =>
    match exec i s with
    | .next t => execAll is t
    | .fault r => .fault r
    | .refused r => .refused r

/-- The places of the state beside PC and memory. -/
inductive Place where
  | reg (r : Reg)
  | sp
  | flag (f : Flag)
  | inte
  | status
  | env
  deriving DecidableEq, Repr

/-- A place holds in `t` what it holds in `s`. -/
def Place.Same (s t : State) : Place → Prop
  | .reg r => t.getReg r = s.getReg r
  | .sp => t.sp = s.sp
  | .flag f => t.flag f = s.flag f
  | .inte => t.inte = s.inte
  | .status => t.status = s.status
  | .env => t.env = s.env

/-- The frame of an instruction: every place but those listed, and every byte of memory but those at the listed
addresses, is in `t` what it is in `s`. PC may change. -/
def Frame (s t : State) (written : List Place) (stored : List Word) : Prop :=
  (∀ p, p ∉ written → p.Same s t) ∧ ∀ x, x ∉ stored → t.readByte x = s.readByte x

/-- The five flags as places. -/
def allFlags : List Place := [.flag .z, .flag .s, .flag .p, .flag .cy, .flag .ac]

/-- The registers a pair is made of (10 R33). -/
def Pair.places : Pair → List Place
  | .bc => [.reg .b, .reg .c]
  | .de => [.reg .d, .reg .e]
  | .hl => [.reg .h, .reg .l]
  | .sp => [.sp]

/-- Z, S and P are those of the 8-bit value v (00 R18). -/
def State.ZspOf (t : State) (v : Byte) : Prop :=
  t.flags.z = decide (v = 0) ∧ t.flags.s = v.getLsbD 7 ∧ t.flags.p = decide (popcount v % 2 = 0)

/-- The bytes of an ALU instruction with operation code `k` (30 R98): 10 ALU SSS, or 11 ALU 110 and the immediate. -/
def aluBytes (k : BitVec 3) : Src → List Byte
  | .reg r => [0b10#2 ++ k ++ r.code]
  | .m => [0b10#2 ++ k ++ 0b110#3]
  | .imm v => [0b11#2 ++ k ++ 0b110#3, v]

/-- The BCD byte of a number below 100 (95 E4). -/
def bcd (n : Nat) : Byte := BitVec.ofNat 8 (n / 10 * 16 + n % 10)

end Sys2Proof.Machine
end

