-- ==== Sys2Proof/Certificates/Slice0/Obligations.lean ====
section
/-! DEFINITION. The statements for the provers. Each docstring names the rule or passage of spec/ it formalises. A clause
that rests on a decision of 92_eei_decisions.md, on a `[derived: …]` mark of the spec, or on a log entry says so. -/

open Sys2Proof Sys2Proof.Machine

/-! ### Encoding -/

/-- Decoding the bytes of any instruction, with any bytes after them, gives back the instruction, with every operand, and
the bytes after it (30 R90 to R104). -/
def Obligations.DecodeInvertsEncode : Prop :=
  ∀ (i : Instr) (rest : List Byte), decode (encode i ++ rest) = .ok (i, rest)

/-- What decodes to an instruction is that instruction's bytes: no two byte sequences have one meaning, and no bit of an
encoding is dropped (30 R90 to R104). -/
def Obligations.EncodeInvertsDecode : Prop :=
  ∀ (bytes : List Byte) (i : Instr) (rest : List Byte), decode bytes = .ok (i, rest) → bytes = encode i ++ rest

/-- 30 R90 to R93: every opcode byte decodes, whatever follows it, to an instruction of one, two or three bytes, and the
opcode alone fixes how many: two bytes for the opcodes of format F2, three for those of F3, one for every other. -/
def Obligations.OpcodeAloneFixesTheLength : Prop :=
  (∀ (op b1 b2 : Byte) (rest : List Byte), ∃ i,
    decode (op :: b1 :: b2 :: rest) = .ok (i, (op :: b1 :: b2 :: rest).drop (encode i).length)) ∧
  (∀ i : Instr, (encode i).length = 1 ∨ (encode i).length = 2 ∨ (encode i).length = 3) ∧
  ∀ (i : Instr) (op : Byte), (encode i).head? = some op →
    ((encode i).length = 2 ↔
      op ∈ ([0x06, 0x0E, 0x16, 0x1E, 0x26, 0x2E, 0x3E, 0x36] ++ [0xC6, 0xCE, 0xD6, 0xDE, 0xE6, 0xEE, 0xF6, 0xFE] ++
        [0xDB, 0xD3] : List Byte)) ∧
    ((encode i).length = 3 ↔
      op ∈ ([0x01, 0x11, 0x21, 0x31] ++ [0x3A, 0x32, 0x2A, 0x22] ++
        [0xC3, 0xC2, 0xCA, 0xD2, 0xDA, 0xE2, 0xEA, 0xF2, 0xFA] ++
        [0xCD, 0xC4, 0xCC, 0xD4, 0xDC, 0xE4, 0xEC, 0xF4, 0xFC] : List Byte))

/-- 30 section 4, 45 R326 (decisions D2 and D12): exactly the twelve listed byte values decode to an instruction that is
not documented, and running one sets the status to Faulted(op, pc), op its own byte and pc the PC, and changes nothing
else. Covers the twelve constructors `unimplemented…`. -/
def Obligations.TwelveUnimplementedBytesFault : Prop :=
  (∀ (op b1 b2 : Byte) (rest : List Byte) (i : Instr) (r : List Byte), decode (op :: b1 :: b2 :: rest) = .ok (i, r) →
    (¬ i.WellFormed ↔
      op ∈ ([0x08, 0x10, 0x18, 0x20, 0x28, 0x30, 0x38] ++ [0xCB, 0xD9, 0xDD, 0xED, 0xFD] : List Byte))) ∧
  ∀ (s : State) (x : Instr × Byte),
    x ∈ [(Instr.unimplemented08, (0x08 : Byte)), (.unimplemented10, 0x10), (.unimplemented18, 0x18),
         (.unimplemented20, 0x20), (.unimplemented28, 0x28), (.unimplemented30, 0x30), (.unimplemented38, 0x38),
         (.unimplementedCB, 0xCB), (.unimplementedD9, 0xD9), (.unimplementedDD, 0xDD), (.unimplementedED, 0xED),
         (.unimplementedFD, 0xFD)] →
    encode x.1 = [x.2] ∧
    exec x.1 s = .next { s with status := .faulted x.2 s.pc }

/-- Words written out from the spec's encodings, one or more per family, decode to what they stand for (30 R94 to R104).
The last clause, that a JMP cut short is refused as `missingOperand`, is log 14 (DESIGN CHOICE): the spec speaks of memory
alone, which never ends. -/
def Obligations.SpecWordsDecode : Prop :=
  decode [0b01001000] = .ok (.movCB, []) ∧
  decode [0b00110110, 0xED] = .ok (.mviM 0xED, []) ∧
  decode [0b00100001, 0x34, 0x12] = .ok (.lxiH 0x1234, []) ∧
  decode [0b00011011] = .ok (.dcxD, []) ∧
  decode [0b10011110] = .ok (.sbbM, []) ∧
  decode [0b11111110, 0x40] = .ok (.cpi 0x40, []) ∧
  decode [0b00011111] = .ok (.rar, []) ∧
  decode [0b11110101] = .ok (.pushPSW, []) ∧
  decode [0b11101100, 0x00, 0x03] = .ok (.cpe 0x0300, []) ∧
  decode [0b11111000] = .ok (.rm, []) ∧
  decode [0b11101111] = .ok (.rst5, []) ∧
  decode [0b11011011, 0x03] = .ok (.inPort 0x03, []) ∧
  decode [0xED] = .ok (.unimplementedED, []) ∧
  decode [0xC3, 0xD4] = .error .missingOperand

/-! ### The step -/

/-- 60 section 1: when the bytes fetched at PC decode to an instruction and the environment presents an Execute step, the
step of a running core is `exec` of it, at the state in which the environment has presented it; that is the very state
the step started in when nothing is listed and nothing is scheduled but Execute steps. -/
def Obligations.StepRunsDecodedInstruction : Prop :=
  ∀ (s : State) (i : Instr), s.status = .running → decode s.fetchBytes = .ok (i, []) →
    (s.env.presents = .execute → step s = exec i s.presented) ∧
    (s.env.events = [] → s.env.later = .execute → step s = exec i s)

/-- 20 section 2, 10 section 3 (R64, marked derived; R35, decision D23): if memory holds the bytes of an instruction from
PC on, each address modulo 65,536, the step runs that instruction. -/
def Obligations.StepRunsInstructionPlacedInMemory : Prop :=
  ∀ (s : State) (i : Instr), s.AtBoundary →
    (∀ (k : Nat) (h : k < (encode i).length), s.readByte (s.pc + BitVec.ofNat 16 k) = (encode i)[k]) →
    step s = exec i s.presented

/-- 60 R400, R403: a running core always steps, unless the host quits; the step leaves it running but for two cases: it
ran HLT, or the byte at PC is an unimplemented opcode and the status reports that byte and PC, as every Execute step at
such a byte does. -/
def Obligations.OnlyHltAndUnimplementedStopTheCore : Prop :=
  ∀ s : State, s.status = .running → s.env.presents ≠ .quit →
    ∃ t, step s = .next t ∧
      (t.status = .running ∨
       (t.status = .halted ∧ s.fetch = .hlt) ∨
       (t.status = .faulted (s.readByte s.pc) s.pc ∧ s.readByte s.pc ∈ unimplementedBytes)) ∧
      (s.env.presents = .execute → s.readByte s.pc ∈ unimplementedBytes →
        t.status = .faulted (s.readByte s.pc) s.pc)

/-- 60 R401, R402, 10 section 5: Halted and Faulted are terminal: from either no step leads on, whatever the environment
presents. That the model says so by a fault is log 9. -/
def Obligations.TerminalStatusesHaveNoStep : Prop :=
  ∀ s : State,
    (s.status = .halted → step s = .fault .halted) ∧
    ∀ op pc, s.status = .faulted op pc → step s = .fault (.unimplementedOpcode op pc)

/-- Every step keeps the invariant: memory stays canonical, and a Faulted status reports the unimplemented byte that
stands at PC. -/
def Obligations.StepKeepsInvariant : Prop :=
  ∀ s t : State, s.Inv → step s = .next t → t.Inv

/-- The invariant holds right after reset. -/
def Obligations.ResetHasInvariant : Prop := State.reset.Inv

/-- 10 R38: a step changes INTE only by EI, which sets it, by DI, which clears it, or by the delivery of a request, which
clears it; and no other instruction depends on INTE or writes it. -/
def Obligations.InteChangesOnlyByEiDiAndDelivery : Prop :=
  (∀ s t : State, step s = .next t → t.inte ≠ s.inte →
    (s.fetch = .ei ∧ t.inte = true) ∨ (s.fetch = .di ∧ t.inte = false) ∨
    ∃ v, s.env.presents = .request v ∧ t.inte = false) ∧
  (∀ s : State, ∃ t, exec .ei s = .next t ∧ t.inte = true) ∧
  (∀ s : State, ∃ t, exec .di s = .next t ∧ t.inte = false) ∧
  ∀ (i : Instr) (s t : State) (b : Bool), i ≠ .ei → i ≠ .di → exec i s = .next t →
    exec i { s with inte := b } = .next { t with inte := b }

/-- 10 section 4: an instruction leaves every flag alone that the spec does not list it as writing. -/
def Obligations.FlagsWrittenOnlyByListedInstructions : Prop :=
  ∀ (i : Instr) (s t : State) (f : Flag), exec i s = .next t → f ∉ flagsWritten i → t.flag f = s.flag f

/-! ### Reset -/

/-- 70 R501: at the start of a run every byte of memory is the image's, from address 0 on, and zero elsewhere. -/
def Obligations.ImageLoadedOverZeroMemory : Prop :=
  ∀ (p : InitParams) (image : List Byte) (s : State), State.boot p image = some s →
    s.mem.wf = true ∧ ∀ a : Word, s.readByte a = image.getD a.toNat 0x00

/-- 70 section 1 (R502, decision D24; R43 and R44, decisions D5 and D6; R42): an image over 65,536 bytes does not start
the core; any other starts it with PC 0, INTE 0, status Running, and the registers and flags the parameters name, for
every value of them. Reset is such a start, with an empty image; its register and flag values are log 1. -/
def Obligations.StartOfARun : Prop :=
  (∀ (p : InitParams) (image : List Byte),
    (image.length > 65536 → State.boot p image = none) ∧
    (image.length ≤ 65536 → ∃ s, State.boot p image = some s ∧
      s.pc = 0x0000 ∧ s.inte = false ∧ s.status = .running ∧
      s.regs = p.regs ∧ s.sp = p.sp ∧ s.flags = p.flags)) ∧
  State.boot .named [] = some State.reset

/-- 70 section 1 (R504, marked derived): at the start of a run a request changes nothing, and the first Execute step runs
the instruction at address 0. -/
def Obligations.FirstStepExecutesAtZero : Prop :=
  ∀ (p : InitParams) (image : List Byte) (s : State), State.boot p image = some s →
    (∀ v, s.env.presents = .request v → step s = .next s.presented) ∧
    (s.env.presents = .execute → ∀ (i : Instr) (rest : List Byte), image = encode i ++ rest →
      step s = exec i s.presented)

/-! ### Memory and the stack primitives -/

/-- 20 sections 2 and 3 (R63, decision D3; R68, marked derived): a 16-bit store is its two bytes, low byte at the lower
address, wrapping; a 16-bit load reads them back so; every other byte is kept. -/
def Obligations.WordAccessesAreTwoByteAccesses : Prop :=
  ∀ (s : State) (a v : Word),
    (s.writeWord a v).readByte a = v.setWidth 8 ∧
    (s.writeWord a v).readByte (a + 1) = (v >>> 8).setWidth 8 ∧
    (s.writeWord a v).readWord a = v ∧
    (∀ l h : Byte, ((s.writeByte a l).writeByte (a + 1) h).readWord a = h ++ l) ∧
    ∀ x, x ≠ a → x ≠ a + 1 → (s.writeWord a v).readByte x = s.readByte x

/-- 43 R250, R251: push16 puts the high byte at SP - 1 and the low byte at SP - 2 and lowers SP by 2; pop16 reads the low
byte at SP and the high byte at SP + 1, raises SP by 2 and leaves memory; all of it modulo 65,536, and nothing else
changes. -/
def Obligations.StackPrimitives : Prop :=
  ∀ (s : State) (v : Word),
    (s.push16 v).readByte (s.sp - 1) = (v >>> 8).setWidth 8 ∧
    (s.push16 v).readByte (s.sp - 2) = v.setWidth 8 ∧
    (s.push16 v).sp = s.sp - 2 ∧
    (s.push16 v).pc = s.pc ∧
    Frame s (s.push16 v) [.sp] [s.sp - 1, s.sp - 2] ∧
    s.popValue = s.readByte (s.sp + 1) ++ s.readByte s.sp ∧
    s.popStack = { s with sp := s.sp + 2 } ∧
    (s.push16 v).popValue = v ∧
    (s.push16 v).popStack.sp = s.sp

/-! ### Data movement -/

/-- 40 R122: MOV r1,r2, all 49 forms `movBB` to `movAA`. -/
def Obligations.MovCopiesRegister : Prop :=
  ∀ (s : State) (r1 r2 : Reg),
    encode (Forms.mov r1 r2) = [0b01#2 ++ r1.code ++ r2.code] ∧
    Completes (Forms.mov r1 r2) s fun t =>
      t.getReg r1 = s.getReg r2 ∧ t.pc = s.pc + 1 ∧ Frame s t [.reg r1] []

/-- 40 R123, R124: MOV r,M (`movBM` to `movAM`) reads and MOV M,r (`movMB` to `movMA`) writes the byte at the address HL
held before the instruction. -/
def Obligations.MovThroughM : Prop :=
  ∀ (s : State) (r : Reg),
    encode (Forms.movFromM r) = [0b01#2 ++ r.code ++ 0b110#3] ∧
    Completes (Forms.movFromM r) s (fun t =>
      t.getReg r = s.readByte (s.regs.h ++ s.regs.l) ∧ t.pc = s.pc + 1 ∧ Frame s t [.reg r] []) ∧
    encode (Forms.movToM r) = [0b01110#5 ++ r.code] ∧
    Completes (Forms.movToM r) s fun t =>
      t.readByte (s.regs.h ++ s.regs.l) = s.getReg r ∧ t.pc = s.pc + 1 ∧ Frame s t [] [s.regs.h ++ s.regs.l]

/-- 40 R125, R126: MVI r,d8 (`mviB` to `mviA`) and MVI M,d8 (`mviM`); the immediate is the byte at PC + 1, modulo
65,536, as fetched. -/
def Obligations.MviLoadsImmediate : Prop :=
  (∀ (s : State) (d : Byte),
    (∀ r : Reg,
      encode (Forms.mvi r d) = [0b00#2 ++ r.code ++ 0b110#3, d] ∧
      Completes (Forms.mvi r d) s fun t => t.getReg r = d ∧ t.pc = s.pc + 2 ∧ Frame s t [.reg r] []) ∧
    encode (.mviM d) = [0x36, d] ∧
    Completes (.mviM d) s fun t =>
      t.readByte (s.regs.h ++ s.regs.l) = d ∧ t.pc = s.pc + 2 ∧ Frame s t [] [s.regs.h ++ s.regs.l]) ∧
  ∀ s : State, s.AtBoundary →
    (∀ r : Reg, s.readByte s.pc = 0b00#2 ++ r.code ++ 0b110#3 →
      step s = exec (Forms.mvi r (s.readByte (s.pc + 1))) s.presented) ∧
    (s.readByte s.pc = 0x36 → step s = exec (.mviM (s.readByte (s.pc + 1))) s.presented)

/-- 40 R127: LXI rp,d16 (`lxiB`, `lxiD`, `lxiH`, `lxiSP`): low byte first in the instruction, high byte to the high
register. -/
def Obligations.LxiLoadsPair : Prop :=
  ∀ (s : State) (rp : Pair) (lo hi : Byte),
    encode (Forms.lxi rp (hi ++ lo)) = [0b00#2 ++ rp.code ++ 0b0001#4, lo, hi] ∧
    Completes (Forms.lxi rp (hi ++ lo)) s fun t =>
      (match rp with
        | .bc => t.regs.b = hi ∧ t.regs.c = lo
        | .de => t.regs.d = hi ∧ t.regs.e = lo
        | .hl => t.regs.h = hi ∧ t.regs.l = lo
        | .sp => t.sp = hi ++ lo) ∧
      t.pc = s.pc + 3 ∧ Frame s t rp.places []

/-- 40 R128, R129, R132, R133: LDA and LDAX load A, STA and STAX store A, at a direct address or through BC or DE
(`lda`, `sta`, `ldaxB`, `ldaxD`, `staxB`, `staxD`). -/
def Obligations.LoadAndStoreA : Prop :=
  ∀ (s : State) (lo hi : Byte),
    (encode (.lda (hi ++ lo)) = [0x3A, lo, hi] ∧
      Completes (.lda (hi ++ lo)) s fun t =>
        t.regs.a = s.readByte (hi ++ lo) ∧ t.pc = s.pc + 3 ∧ Frame s t [.reg .a] []) ∧
    (encode (.sta (hi ++ lo)) = [0x32, lo, hi] ∧
      Completes (.sta (hi ++ lo)) s fun t =>
        t.readByte (hi ++ lo) = s.regs.a ∧ t.pc = s.pc + 3 ∧ Frame s t [] [hi ++ lo]) ∧
    (∀ x ∈ [(Instr.ldaxB, (0x0A : Byte), s.regs.b ++ s.regs.c), (.ldaxD, 0x1A, s.regs.d ++ s.regs.e)],
      encode x.1 = [x.2.1] ∧
      Completes x.1 s fun t => t.regs.a = s.readByte x.2.2 ∧ t.pc = s.pc + 1 ∧ Frame s t [.reg .a] []) ∧
    ∀ x ∈ [(Instr.staxB, (0x02 : Byte), s.regs.b ++ s.regs.c), (.staxD, 0x12, s.regs.d ++ s.regs.e)],
      encode x.1 = [x.2.1] ∧
      Completes x.1 s fun t => t.readByte x.2.2 = s.regs.a ∧ t.pc = s.pc + 1 ∧ Frame s t [] [x.2.2]

/-- 40 section Direct addressing (R130, R131, byte order by decision D3): LHLD and SHLD move L at the address and H at
the next one, 0x0000 after 0xFFFF (`lhld`, `shld`). -/
def Obligations.LoadAndStoreHl : Prop :=
  ∀ (s : State) (lo hi : Byte),
    (encode (.lhld (hi ++ lo)) = [0x2A, lo, hi] ∧
      Completes (.lhld (hi ++ lo)) s fun t =>
        t.regs.l = s.readByte (hi ++ lo) ∧ t.regs.h = s.readByte ((hi ++ lo) + 1) ∧
        t.pc = s.pc + 3 ∧ Frame s t [.reg .h, .reg .l] []) ∧
    encode (.shld (hi ++ lo)) = [0x22, lo, hi] ∧
    Completes (.shld (hi ++ lo)) s fun t =>
      t.readByte (hi ++ lo) = s.regs.l ∧ t.readByte ((hi ++ lo) + 1) = s.regs.h ∧
      t.pc = s.pc + 3 ∧ Frame s t [] [hi ++ lo, (hi ++ lo) + 1]

/-- 40 R134: XCHG (`xchg`). -/
def Obligations.XchgExchangesPairs : Prop :=
  ∀ s : State,
    encode .xchg = [0xEB] ∧
    Completes .xchg s fun t =>
      t.regs.h = s.regs.d ∧ t.regs.l = s.regs.e ∧ t.regs.d = s.regs.h ∧ t.regs.e = s.regs.l ∧
      t.pc = s.pc + 1 ∧ Frame s t [.reg .d, .reg .e, .reg .h, .reg .l] []

/-! ### Arithmetic -/

/-- 41 R164, R165: INX rp and DCX rp (`inxB` to `inxSP`, `dcxB` to `dcxSP`) count modulo 65,536 and write no flag. -/
def Obligations.InxDcxCountModulo65536 : Prop :=
  ∀ (s : State) (rp : Pair),
    (encode (Forms.inx rp) = [0b00#2 ++ rp.code ++ 0b0011#4] ∧
      Completes (Forms.inx rp) s fun t =>
        (t.getPair rp).toNat = ((s.getPair rp).toNat + 1) % 65536 ∧ t.pc = s.pc + 1 ∧ Frame s t rp.places []) ∧
    encode (Forms.dcx rp) = [0b00#2 ++ rp.code ++ 0b1011#4] ∧
    Completes (Forms.dcx rp) s fun t =>
      (t.getPair rp).toNat = ((s.getPair rp).toNat + 65535) % 65536 ∧ t.pc = s.pc + 1 ∧ Frame s t rp.places []

/-- 41 R166, R167: INR r and INR M (`inrB` to `inrA`, `inrM`): Z, S, P from the result, AC when the low nibble was 0xF,
CY kept. -/
def Obligations.InrIncrements : Prop :=
  ∀ s : State,
    (∀ r : Reg, encode (Forms.inr r) = [0b00#2 ++ r.code ++ 0b100#3] ∧
      Completes (Forms.inr r) s fun t =>
        (t.getReg r).toNat = ((s.getReg r).toNat + 1) % 256 ∧ t.ZspOf (t.getReg r) ∧
        t.flags.ac = decide ((s.getReg r).toNat % 16 = 15) ∧
        t.pc = s.pc + 1 ∧ Frame s t [.reg r, .flag .z, .flag .s, .flag .p, .flag .ac] []) ∧
    encode .inrM = [0x34] ∧
    Completes .inrM s fun t =>
      (t.readByte (s.regs.h ++ s.regs.l)).toNat = ((s.readByte (s.regs.h ++ s.regs.l)).toNat + 1) % 256 ∧
      t.ZspOf (t.readByte (s.regs.h ++ s.regs.l)) ∧
      t.flags.ac = decide ((s.readByte (s.regs.h ++ s.regs.l)).toNat % 16 = 15) ∧
      t.pc = s.pc + 1 ∧ Frame s t [.flag .z, .flag .s, .flag .p, .flag .ac] [s.regs.h ++ s.regs.l]

/-- 41 R168, R169: DCR r and DCR M (`dcrB` to `dcrA`, `dcrM`): Z, S, P from the result, AC when the low nibble was 0x0,
CY kept. -/
def Obligations.DcrDecrements : Prop :=
  ∀ s : State,
    (∀ r : Reg, encode (Forms.dcr r) = [0b00#2 ++ r.code ++ 0b101#3] ∧
      Completes (Forms.dcr r) s fun t =>
        (t.getReg r).toNat = ((s.getReg r).toNat + 255) % 256 ∧ t.ZspOf (t.getReg r) ∧
        t.flags.ac = decide ((s.getReg r).toNat % 16 = 0) ∧
        t.pc = s.pc + 1 ∧ Frame s t [.reg r, .flag .z, .flag .s, .flag .p, .flag .ac] []) ∧
    encode .dcrM = [0x35] ∧
    Completes .dcrM s fun t =>
      (t.readByte (s.regs.h ++ s.regs.l)).toNat = ((s.readByte (s.regs.h ++ s.regs.l)).toNat + 255) % 256 ∧
      t.ZspOf (t.readByte (s.regs.h ++ s.regs.l)) ∧
      t.flags.ac = decide ((s.readByte (s.regs.h ++ s.regs.l)).toNat % 16 = 0) ∧
      t.pc = s.pc + 1 ∧ Frame s t [.flag .z, .flag .s, .flag .p, .flag .ac] [s.regs.h ++ s.regs.l]

/-- 41 R170, R171, R172: ADD r, ADD M, ADI d8 (`addB` to `addA`, `addM`, `adi`). -/
def Obligations.AddAddsToA : Prop :=
  ∀ (s : State) (x : Src),
    encode (Forms.add x) = aluBytes 0b000 x ∧
    Completes (Forms.add x) s fun t =>
      t.regs.a.toNat = (s.regs.a.toNat + (s.src x).toNat) % 256 ∧ t.ZspOf t.regs.a ∧
      t.flags.cy = decide (s.regs.a.toNat + (s.src x).toNat > 255) ∧
      t.flags.ac = decide (s.regs.a.toNat % 16 + (s.src x).toNat % 16 > 15) ∧
      t.pc = s.pc + x.length ∧ Frame s t (.reg .a :: allFlags) []

/-- 41 R173, R174, R175: ADC r, ADC M, ACI d8 (`adcB` to `adcA`, `adcM`, `aci`). -/
def Obligations.AdcAddsWithCarry : Prop :=
  ∀ (s : State) (x : Src),
    encode (Forms.adc x) = aluBytes 0b001 x ∧
    Completes (Forms.adc x) s fun t =>
      t.regs.a.toNat = (s.regs.a.toNat + (s.src x).toNat + s.flags.cy.toNat) % 256 ∧ t.ZspOf t.regs.a ∧
      t.flags.cy = decide (s.regs.a.toNat + (s.src x).toNat + s.flags.cy.toNat > 255) ∧
      t.flags.ac = decide (s.regs.a.toNat % 16 + (s.src x).toNat % 16 + s.flags.cy.toNat > 15) ∧
      t.pc = s.pc + x.length ∧ Frame s t (.reg .a :: allFlags) []

/-- 41 R176, R177, R178: SUB r, SUB M, SUI d8 (`subB` to `subA`, `subM`, `sui`): CY and AC are borrows. -/
def Obligations.SubSubtractsFromA : Prop :=
  ∀ (s : State) (x : Src),
    encode (Forms.sub x) = aluBytes 0b010 x ∧
    Completes (Forms.sub x) s fun t =>
      t.regs.a.toNat = (s.regs.a.toNat + 256 - (s.src x).toNat) % 256 ∧ t.ZspOf t.regs.a ∧
      t.flags.cy = decide (s.regs.a.toNat < (s.src x).toNat) ∧
      t.flags.ac = decide (s.regs.a.toNat % 16 < (s.src x).toNat % 16) ∧
      t.pc = s.pc + x.length ∧ Frame s t (.reg .a :: allFlags) []

/-- 41 R179, R180, R181: SBB r, SBB M, SBI d8 (`sbbB` to `sbbA`, `sbbM`, `sbi`). -/
def Obligations.SbbSubtractsWithBorrow : Prop :=
  ∀ (s : State) (x : Src),
    encode (Forms.sbb x) = aluBytes 0b011 x ∧
    Completes (Forms.sbb x) s fun t =>
      t.regs.a.toNat = (s.regs.a.toNat + 256 - ((s.src x).toNat + s.flags.cy.toNat)) % 256 ∧ t.ZspOf t.regs.a ∧
      t.flags.cy = decide (s.regs.a.toNat < (s.src x).toNat + s.flags.cy.toNat) ∧
      t.flags.ac = decide (s.regs.a.toNat % 16 < (s.src x).toNat % 16 + s.flags.cy.toNat) ∧
      t.pc = s.pc + x.length ∧ Frame s t (.reg .a :: allFlags) []

/-- 41 R182: DAD rp (`dadB`, `dadD`, `dadH`, `dadSP`): HL is the sum modulo 65,536, CY its carry; no other flag. -/
def Obligations.DadAddsToHl : Prop :=
  ∀ (s : State) (rp : Pair),
    encode (Forms.dad rp) = [0b00#2 ++ rp.code ++ 0b1001#4] ∧
    Completes (Forms.dad rp) s fun t =>
      (t.getPair .hl).toNat = ((s.getPair .hl).toNat + (s.getPair rp).toNat) % 65536 ∧
      t.flags.cy = decide ((s.getPair .hl).toNat + (s.getPair rp).toNat > 65535) ∧
      t.pc = s.pc + 1 ∧ Frame s t [.reg .h, .reg .l, .flag .cy] []

/-! ### Logical, compare, rotate, decimal adjust -/

/-- 42 R201, R202, R203: ANA r, ANA M, ANI d8 (`anaB` to `anaA`, `anaM`, `ani`): AC is the OR of bit 3 of both
operands. Z, S, P and the cleared CY are decision D8 in R200. -/
def Obligations.AnaAndsIntoA : Prop :=
  ∀ (s : State) (x : Src),
    encode (Forms.ana x) = aluBytes 0b100 x ∧
    Completes (Forms.ana x) s fun t =>
      (∀ k, t.regs.a.getLsbD k = (s.regs.a.getLsbD k && (s.src x).getLsbD k)) ∧ t.ZspOf t.regs.a ∧
      t.flags.cy = false ∧ t.flags.ac = (s.regs.a.getLsbD 3 || (s.src x).getLsbD 3) ∧
      t.pc = s.pc + x.length ∧ Frame s t (.reg .a :: allFlags) []

/-- 42 R204, R205, R206: XRA r, XRA M, XRI d8 (`xraB` to `xraA`, `xraM`, `xri`). Z, S, P are decision D8 in R200. -/
def Obligations.XraXorsIntoA : Prop :=
  ∀ (s : State) (x : Src),
    encode (Forms.xra x) = aluBytes 0b101 x ∧
    Completes (Forms.xra x) s fun t =>
      (∀ k, t.regs.a.getLsbD k = Bool.xor (s.regs.a.getLsbD k) ((s.src x).getLsbD k)) ∧ t.ZspOf t.regs.a ∧
      t.flags.cy = false ∧ t.flags.ac = false ∧
      t.pc = s.pc + x.length ∧ Frame s t (.reg .a :: allFlags) []

/-- 42 R207, R208, R209: ORA r, ORA M, ORI d8 (`oraB` to `oraA`, `oraM`, `ori`). Z, S, P are decision D8 in R200. -/
def Obligations.OraOrsIntoA : Prop :=
  ∀ (s : State) (x : Src),
    encode (Forms.ora x) = aluBytes 0b110 x ∧
    Completes (Forms.ora x) s fun t =>
      (∀ k, t.regs.a.getLsbD k = (s.regs.a.getLsbD k || (s.src x).getLsbD k)) ∧ t.ZspOf t.regs.a ∧
      t.flags.cy = false ∧ t.flags.ac = false ∧
      t.pc = s.pc + x.length ∧ Frame s t (.reg .a :: allFlags) []

/-- 42 R210, R211, R212: CMP r, CMP M, CPI d8 (`cmpB` to `cmpA`, `cmpM`, `cpi`): the flags are those SUB sets on the
same operands, and A is kept. -/
def Obligations.CmpSetsFlagsOfSub : Prop :=
  ∀ (s : State) (x : Src),
    encode (Forms.cmp x) = aluBytes 0b111 x ∧
    Completes (Forms.cmp x) s fun t =>
      t.flags.z = decide (s.regs.a = s.src x) ∧
      t.flags.cy = decide (s.regs.a.toNat < (s.src x).toNat) ∧
      t.flags.ac = decide (s.regs.a.toNat % 16 < (s.src x).toNat % 16) ∧
      t.ZspOf (s.regs.a - s.src x) ∧
      (∃ u, exec (Forms.sub x) s = .next u ∧ t.flags = u.flags) ∧
      t.pc = s.pc + x.length ∧ Frame s t allFlags []

/-- 42 R214, R215, R216, R217: RLC, RRC, RAL, RAR, bit by bit: what feeds the vacated bit and what CY receives; no other
flag (`rlc`, `rrc`, `ral`, `rar`). -/
def Obligations.RotatesMoveBits : Prop :=
  ∀ s : State,
    (encode .rlc = [0x07] ∧ Completes .rlc s fun t =>
      (∀ k < 7, t.regs.a.getLsbD (k + 1) = s.regs.a.getLsbD k) ∧ t.regs.a.getLsbD 0 = s.regs.a.getLsbD 7 ∧
      t.flags.cy = s.regs.a.getLsbD 7 ∧ t.pc = s.pc + 1 ∧ Frame s t [.reg .a, .flag .cy] []) ∧
    (encode .rrc = [0x0F] ∧ Completes .rrc s fun t =>
      (∀ k < 7, t.regs.a.getLsbD k = s.regs.a.getLsbD (k + 1)) ∧ t.regs.a.getLsbD 7 = s.regs.a.getLsbD 0 ∧
      t.flags.cy = s.regs.a.getLsbD 0 ∧ t.pc = s.pc + 1 ∧ Frame s t [.reg .a, .flag .cy] []) ∧
    (encode .ral = [0x17] ∧ Completes .ral s fun t =>
      (∀ k < 7, t.regs.a.getLsbD (k + 1) = s.regs.a.getLsbD k) ∧ t.regs.a.getLsbD 0 = s.flags.cy ∧
      t.flags.cy = s.regs.a.getLsbD 7 ∧ t.pc = s.pc + 1 ∧ Frame s t [.reg .a, .flag .cy] []) ∧
    encode .rar = [0x1F] ∧ Completes .rar s fun t =>
      (∀ k < 7, t.regs.a.getLsbD k = s.regs.a.getLsbD (k + 1)) ∧ t.regs.a.getLsbD 7 = s.flags.cy ∧
      t.flags.cy = s.regs.a.getLsbD 0 ∧ t.pc = s.pc + 1 ∧ Frame s t [.reg .a, .flag .cy] []

/-- 42, corner cases of R214 to R217: eight RLCs or RRCs restore A; nine RALs or RARs, the 9-bit rotate, restore A and
CY; RAR undoes RAL. -/
def Obligations.RotatesAreCyclic : Prop :=
  ∀ s : State,
    (∃ t, execAll (List.replicate 8 .rlc) s = .next t ∧ t.regs.a = s.regs.a) ∧
    (∃ t, execAll (List.replicate 8 .rrc) s = .next t ∧ t.regs.a = s.regs.a) ∧
    (∃ t, execAll (List.replicate 9 .ral) s = .next t ∧ t.regs.a = s.regs.a ∧ t.flags.cy = s.flags.cy) ∧
    (∃ t, execAll (List.replicate 9 .rar) s = .next t ∧ t.regs.a = s.regs.a ∧ t.flags.cy = s.flags.cy) ∧
    ∃ t, execAll [.ral, .rar] s = .next t ∧ t.regs = s.regs ∧ t.flags = s.flags

/-- 42 section Decimal adjust (R218, decision D9): DAA over an exact intermediate: the low correction if the low nibble
exceeds 9 or AC = 1, the high one if what then stands above the low nibble exceeds 9 or CY = 1 (`daa`). -/
def Obligations.DaaCorrectsNibbles : Prop :=
  ∀ s : State,
    encode .daa = [0x27] ∧
    Completes .daa s fun t =>
      ∃ mid : Nat,
        mid = (if s.regs.a.toNat % 16 > 9 ∨ s.flags.ac = true then s.regs.a.toNat + 6 else s.regs.a.toNat) ∧
        t.regs.a.toNat = (if mid / 16 > 9 ∨ s.flags.cy = true then mid + 96 else mid) % 256 ∧
        t.flags.cy = decide (mid / 16 > 9 ∨ s.flags.cy = true) ∧
        t.flags.ac = decide ((s.regs.a.toNat % 16 > 9 ∨ s.flags.ac = true) ∧ s.regs.a.toNat % 16 + 6 > 15) ∧
        t.ZspOf t.regs.a ∧ t.pc = s.pc + 1 ∧ Frame s t (.reg .a :: allFlags) []

/-- 95 E4, the source's law of section 8, corner case of R218: after ADD, or after ADC with the incoming carry, of two
valid BCD bytes, DAA gives the BCD sum modulo 100 with CY as the decimal carry, for every second operand form. -/
def Obligations.DaaGivesBcdSum : Prop :=
  ∀ (s : State) (x : Src) (m n : Nat), m < 100 → n < 100 → s.regs.a = bcd m → s.src x = bcd n →
    (∃ t, execAll [Forms.add x, .daa] s = .next t ∧
      t.regs.a = bcd ((m + n) % 100) ∧ t.flags.cy = decide (m + n ≥ 100)) ∧
    ∃ t, execAll [Forms.adc x, .daa] s = .next t ∧
      t.regs.a = bcd ((m + n + s.flags.cy.toNat) % 100) ∧ t.flags.cy = decide (m + n + s.flags.cy.toNat ≥ 100)

/-- 42 R219, R220, R221: CMA complements A and writes no flag; STC sets CY and CMC complements it, no other flag
(`cma`, `stc`, `cmc`). -/
def Obligations.ComplementAndCarry : Prop :=
  ∀ s : State,
    (encode .cma = [0x2F] ∧ Completes .cma s fun t =>
      t.regs.a.toNat = 255 - s.regs.a.toNat ∧ t.pc = s.pc + 1 ∧ Frame s t [.reg .a] []) ∧
    (encode .stc = [0x37] ∧ Completes .stc s fun t =>
      t.flags.cy = true ∧ t.pc = s.pc + 1 ∧ Frame s t [.flag .cy] []) ∧
    encode .cmc = [0x3F] ∧ Completes .cmc s fun t =>
      t.flags.cy = !s.flags.cy ∧ t.pc = s.pc + 1 ∧ Frame s t [.flag .cy] []

/-! ### Stack -/

/-- 43 R254, R256: PUSH rp (`pushB`, `pushD`, `pushH`) stores the high register at SP - 1 and the low one at SP - 2; POP
rp (`popB`, `popD`, `popH`) loads the low register from SP and the high one from SP + 1. -/
def Obligations.PushAndPopPairs : Prop :=
  ∀ s : State,
    (∀ x ∈ [(Instr.pushB, (0xC5 : Byte), Reg.b, Reg.c), (.pushD, 0xD5, .d, .e), (.pushH, 0xE5, .h, .l)],
      encode x.1 = [x.2.1] ∧
      Completes x.1 s fun t =>
        t.readByte (s.sp - 1) = s.getReg x.2.2.1 ∧ t.readByte (s.sp - 2) = s.getReg x.2.2.2 ∧
        t.sp = s.sp - 2 ∧ t.pc = s.pc + 1 ∧ Frame s t [.sp] [s.sp - 1, s.sp - 2]) ∧
    ∀ x ∈ [(Instr.popB, (0xC1 : Byte), Reg.b, Reg.c), (.popD, 0xD1, .d, .e), (.popH, 0xE1, .h, .l)],
      encode x.1 = [x.2.1] ∧
      Completes x.1 s fun t =>
        t.getReg x.2.2.2 = s.readByte s.sp ∧ t.getReg x.2.2.1 = s.readByte (s.sp + 1) ∧
        t.sp = s.sp + 2 ∧ t.pc = s.pc + 1 ∧ Frame s t [.sp, .reg x.2.2.1, .reg x.2.2.2] []

/-- 43 sections Primitives, PUSH and POP (R252, R253, decision D10; R255, R257): PUSH PSW stores A at SP - 1 and the flag
byte S Z 0 AC 0 P 1 CY at SP - 2; POP PSW loads A and the five flags and ignores bits 5, 3 and 1 (`pushPSW`,
`popPSW`). -/
def Obligations.PushAndPopPsw : Prop :=
  ∀ s : State,
    (encode .pushPSW = [0xF5] ∧ Completes .pushPSW s fun t =>
      t.readByte (s.sp - 1) = s.regs.a ∧
      (t.readByte (s.sp - 2)).toNat =
        128 * s.flags.s.toNat + 64 * s.flags.z.toNat + 16 * s.flags.ac.toNat + 4 * s.flags.p.toNat + 2 +
          s.flags.cy.toNat ∧
      t.sp = s.sp - 2 ∧ t.pc = s.pc + 1 ∧ Frame s t [.sp] [s.sp - 1, s.sp - 2]) ∧
    encode .popPSW = [0xF1] ∧ Completes .popPSW s fun t =>
      t.regs.a = s.readByte (s.sp + 1) ∧
      t.flags.s = (s.readByte s.sp).getLsbD 7 ∧ t.flags.z = (s.readByte s.sp).getLsbD 6 ∧
      t.flags.ac = (s.readByte s.sp).getLsbD 4 ∧ t.flags.p = (s.readByte s.sp).getLsbD 2 ∧
      t.flags.cy = (s.readByte s.sp).getLsbD 0 ∧
      t.sp = s.sp + 2 ∧ t.pc = s.pc + 1 ∧ Frame s t (.sp :: .reg .a :: allFlags) []

/-- 95 E2, the source's round-trip law: PUSH then POP of a pair or of PSW restores every register, SP and the flags. -/
def Obligations.PushThenPopRestores : Prop :=
  ∀ (s : State), ∀ x ∈ [(Instr.pushB, Instr.popB), (.pushD, .popD), (.pushH, .popH), (.pushPSW, .popPSW)],
    ∃ t, execAll [x.1, x.2] s = .next t ∧
      t.regs = s.regs ∧ t.sp = s.sp ∧ t.flags = s.flags ∧ t.inte = s.inte ∧ t.pc = s.pc + 2

/-- 43 R258, R259: XTHL exchanges HL with the two bytes at SP and SP + 1 and keeps SP; SPHL loads SP from HL (`xthl`,
`sphl`). -/
def Obligations.XthlAndSphl : Prop :=
  ∀ s : State,
    (encode .xthl = [0xE3] ∧ Completes .xthl s fun t =>
      t.regs.l = s.readByte s.sp ∧ t.regs.h = s.readByte (s.sp + 1) ∧
      t.readByte s.sp = s.regs.l ∧ t.readByte (s.sp + 1) = s.regs.h ∧
      t.pc = s.pc + 1 ∧ Frame s t [.reg .h, .reg .l] [s.sp, s.sp + 1]) ∧
    encode .sphl = [0xF9] ∧ Completes .sphl s fun t =>
      t.sp = s.regs.h ++ s.regs.l ∧ t.pc = s.pc + 1 ∧ Frame s t [.sp] []

/-! ### Control transfers -/

/-- 44 R272, R300: JMP sets PC to its operand and PCHL to HL; nothing else changes (`jmp`, `pchl`). -/
def Obligations.JmpAndPchl : Prop :=
  ∀ (s : State) (lo hi : Byte),
    (encode (.jmp (hi ++ lo)) = [0xC3, lo, hi] ∧
      Completes (.jmp (hi ++ lo)) s fun t => t.pc = hi ++ lo ∧ Frame s t [] []) ∧
    encode .pchl = [0xE9] ∧ Completes .pchl s fun t => t.pc = s.regs.h ++ s.regs.l ∧ Frame s t [] []

/-- 44 R273 to R280: each conditional jump tests its one flag in its one polarity; PC becomes the operand or pc + 3, and
nothing else changes (`jnz`, `jz`, `jnc`, `jc`, `jpo`, `jpe`, `jp`, `jm`). -/
def Obligations.ConditionalJumps : Prop :=
  ∀ (s : State) (lo hi : Byte), ∀ x ∈
    [(Instr.jnz (hi ++ lo), (0xC2 : Byte), Flag.z, false), (.jz (hi ++ lo), 0xCA, .z, true),
     (.jnc (hi ++ lo), 0xD2, .cy, false), (.jc (hi ++ lo), 0xDA, .cy, true),
     (.jpo (hi ++ lo), 0xE2, .p, false), (.jpe (hi ++ lo), 0xEA, .p, true),
     (.jp (hi ++ lo), 0xF2, .s, false), (.jm (hi ++ lo), 0xFA, .s, true)],
    encode x.1 = [x.2.1, lo, hi] ∧
    Completes x.1 s fun t =>
      t.pc = (if s.flag x.2.2.1 = x.2.2.2 then hi ++ lo else s.pc + 3) ∧ Frame s t [] []

/-- 44 R281 to R289: CALL, and each conditional call whose flag has its polarity, pushes pc + 3 and sets PC to the
operand; a call not taken only advances PC by 3; the bytes of a CALL are those fetched before it pushes (`call`, `cnz`,
`cz`, `cnc`, `cc`, `cpo`, `cpe`, `cp`, `cm`). -/
def Obligations.CallsPushReturnAddress : Prop :=
  (∀ s : State, s.AtBoundary → s.readByte s.pc = 0xCD →
    step s = exec (.call (s.readByte (s.pc + 2) ++ s.readByte (s.pc + 1))) s.presented) ∧
  ∀ (s : State) (lo hi : Byte),
    (encode (.call (hi ++ lo)) = [0xCD, lo, hi] ∧
      Completes (.call (hi ++ lo)) s fun t =>
        t.pc = hi ++ lo ∧ t.sp = s.sp - 2 ∧ t.readByte (s.sp - 1) = ((s.pc + 3) >>> 8).setWidth 8 ∧
        t.readByte (s.sp - 2) = (s.pc + 3).setWidth 8 ∧ Frame s t [.sp] [s.sp - 1, s.sp - 2]) ∧
    ∀ x ∈
      [(Instr.cnz (hi ++ lo), (0xC4 : Byte), Flag.z, false), (.cz (hi ++ lo), 0xCC, .z, true),
       (.cnc (hi ++ lo), 0xD4, .cy, false), (.cc (hi ++ lo), 0xDC, .cy, true),
       (.cpo (hi ++ lo), 0xE4, .p, false), (.cpe (hi ++ lo), 0xEC, .p, true),
       (.cp (hi ++ lo), 0xF4, .s, false), (.cm (hi ++ lo), 0xFC, .s, true)],
      encode x.1 = [x.2.1, lo, hi] ∧
      Completes x.1 s fun t =>
        if s.flag x.2.2.1 = x.2.2.2 then
          t.pc = hi ++ lo ∧ t.sp = s.sp - 2 ∧ t.readByte (s.sp - 1) = ((s.pc + 3) >>> 8).setWidth 8 ∧
          t.readByte (s.sp - 2) = (s.pc + 3).setWidth 8 ∧ Frame s t [.sp] [s.sp - 1, s.sp - 2]
        else t.pc = s.pc + 3 ∧ Frame s t [] []

/-- 44 R290 to R298: RET, and each conditional return whose flag has its polarity, pops PC; a return not taken only
advances PC by 1 (`ret`, `rnz`, `rz`, `rnc`, `rc`, `rpo`, `rpe`, `rp`, `rm`). -/
def Obligations.ReturnsPopReturnAddress : Prop :=
  ∀ s : State,
    (encode .ret = [0xC9] ∧ Completes .ret s fun t =>
      t.pc = s.readByte (s.sp + 1) ++ s.readByte s.sp ∧ t.sp = s.sp + 2 ∧ Frame s t [.sp] []) ∧
    ∀ x ∈
      [(Instr.rnz, (0xC0 : Byte), Flag.z, false), (.rz, 0xC8, .z, true), (.rnc, 0xD0, .cy, false),
       (.rc, 0xD8, .cy, true), (.rpo, 0xE0, .p, false), (.rpe, 0xE8, .p, true), (.rp, 0xF0, .s, false),
       (.rm, 0xF8, .s, true)],
      encode x.1 = [x.2.1] ∧
      Completes x.1 s fun t =>
        if s.flag x.2.2.1 = x.2.2.2 then
          t.pc = s.readByte (s.sp + 1) ++ s.readByte s.sp ∧ t.sp = s.sp + 2 ∧ Frame s t [.sp] []
        else t.pc = s.pc + 1 ∧ Frame s t [] []

/-- 44 R299: RST n pushes pc + 1 and sets PC to 8 n; INTE and all else is kept (`rst0` to `rst7`). -/
def Obligations.RstCallsItsVector : Prop :=
  ∀ (s : State), ∀ x ∈
    [(Instr.rst0, (0 : BitVec 3)), (.rst1, 1), (.rst2, 2), (.rst3, 3), (.rst4, 4), (.rst5, 5), (.rst6, 6), (.rst7, 7)],
    encode x.1 = [0b11#2 ++ x.2 ++ 0b111#3] ∧
    Completes x.1 s fun t =>
      t.pc.toNat = 8 * x.2.toNat ∧ t.sp = s.sp - 2 ∧ t.readByte (s.sp - 1) = ((s.pc + 1) >>> 8).setWidth 8 ∧
      t.readByte (s.sp - 2) = (s.pc + 1).setWidth 8 ∧ Frame s t [.sp] [s.sp - 1, s.sp - 2]

/-- 95 E3, the source's round-trip law, corner case of R281: a CALL to X followed by the RET at X leaves PC at the
instruction after the CALL and SP unchanged. -/
def Obligations.CallThenRetReturns : Prop :=
  ∀ (s : State) (target : Word), ∃ t, execAll [.call target, .ret] s = .next t ∧
    t.pc = s.pc + 3 ∧ t.sp = s.sp ∧ t.regs = s.regs ∧ t.flags = s.flags ∧ t.inte = s.inte

/-! ### System, input and output -/

/-- 45 R320, R325: NOP only advances PC, and a byte 0x00 at PC executes so; DI clears INTE and advances PC, and a request
at the next boundary is then dropped (`nop`, `di`). -/
def Obligations.NopAndDi : Prop :=
  ∀ s : State,
    (encode .nop = [0x00] ∧ Completes .nop s fun t => t.pc = s.pc + 1 ∧ Frame s t [] []) ∧
    (s.AtBoundary → s.readByte s.pc = 0x00 → step s = .next { s.presented with pc := s.pc + 1 }) ∧
    (encode .di = [0xF3] ∧ Completes .di s fun t => t.inte = false ∧ t.pc = s.pc + 1 ∧ Frame s t [.inte] []) ∧
    ∀ t v, exec .di s = .next t → t.status = .running → t.env.presents = .request v → step t = .next t.presented

/-- 45 sections NOP and HLT, Interrupt enable and disable (R321, the final PC by decision D11; R324, at once by decision
D7): HLT advances PC and sets the status to Halted; EI sets INTE, and a request at the very next boundary is delivered
(`hlt`, `ei`). -/
def Obligations.HltAndEi : Prop :=
  ∀ s : State,
    (encode .hlt = [0x76] ∧ Completes .hlt s fun t =>
      t.status = .halted ∧ t.pc = s.pc + 1 ∧ Frame s t [.status] []) ∧
    (encode .ei = [0xFB] ∧ Completes .ei s fun t => t.inte = true ∧ t.pc = s.pc + 1 ∧ Frame s t [.inte] []) ∧
    ∀ t v, exec .ei s = .next t → t.status = .running → t.env.presents = .request v →
      ∃ u, step t = .next u ∧ u.pc.toNat = 8 * v.toNat ∧ u.inte = false

/-- 45 section Input and output, 60 section 7 (R322, D16; R441, R442, R443, R446, D17, D21): IN p puts into A what the
port answers: in1 with bit 3 set from port 1, in2 from port 2, the window of the shift register from port 3; from every
other port, and from every port of the core alone, the free byte of the environment in its present state (log 7), whose
draw is then spent; PC advances by 2 and nothing else changes (`inPort`). -/
def Obligations.InReadsThePort : Prop :=
  ∀ (s : State) (p : Byte),
    encode (.inPort p) = [0xDB, p] ∧
    Completes (.inPort p) s fun t =>
      t.pc = s.pc + 2 ∧ Frame s t [.reg .a, .env] [] ∧
      (∀ b, s.env.bridge = some b → p = 1 → t.regs.a = b.in1 ||| 0x08 ∧ t.env = s.env) ∧
      (∀ b, s.env.bridge = some b → p = 2 → t.regs.a = b.in2 ∧ t.env = s.env) ∧
      (∀ b, s.env.bridge = some b → p = 3 →
        t.regs.a.toNat = b.shiftReg.toNat / 2 ^ (8 - b.shiftOffset.toNat) % 256 ∧ t.env = s.env) ∧
      (s.env.bridge = none ∨ (p ≠ 1 ∧ p ≠ 2 ∧ p ≠ 3) →
        t.regs.a = Config.ioIn s.env p ∧ t.env = { s.env with draws := s.env.draws + 1 })

/-- 45 section Input and output, 60 section 7 (R323, D16; R444, R445, D17, D22): OUT p delivers the pair (p, A) to the
environment; on the platform port 2 sets the shift offset to the low 3 bits, port 4 shifts A into the shift register
from the top, ports 3 and 5 play one sound event for each of their designated bits that is 1 in A, and no other port does
anything; the core changes only PC, by 2 (`outPort`). The 4 designated bits of port 3 and the 5 of port 5 are different
bits, one for each sound; which they are, and the order of several sounds, are free values (log 10). -/
def Obligations.OutWritesThePort : Prop :=
  ((soundMap 3).map Prod.snd = [.ufo, .shot, .playerDeath, .invaderDeath] ∧
    (soundMap 5).map Prod.snd = [.fleet1, .fleet2, .fleet3, .fleet4, .ufoHit] ∧
    (∀ p, p ≠ 3 → p ≠ 5 → soundMap p = []) ∧
    ∀ p, ((soundMap p).map Prod.fst).Nodup) ∧
  ∀ (s : State) (p : Byte),
    encode (.outPort p) = [0xD3, p] ∧
    Completes (.outPort p) s fun t =>
      t.pc = s.pc + 2 ∧ Frame s t [.env] [] ∧
      t.env.outputs = s.env.outputs ++ [(p, s.regs.a)] ∧
      t.env.events = s.env.events ∧ t.env.later = s.env.later ∧ t.env.draws = s.env.draws ∧
      t.env.scheduler = s.env.scheduler ∧ t.env.rendered = s.env.rendered ∧
      (s.env.bridge = none → t.env.bridge = none ∧ t.env.plays = s.env.plays) ∧
      ∀ b, s.env.bridge = some b →
        ∃ (b' : PortBridge) (new : List Sound), t.env.bridge = some b' ∧ t.env.plays = s.env.plays ++ new ∧
          b'.in1 = b.in1 ∧ b'.in2 = b.in2 ∧
          b'.shiftOffset.toNat = (if p = 2 then s.regs.a.toNat % 8 else b.shiftOffset.toNat) ∧
          b'.shiftReg.toNat =
            (if p = 4 then s.regs.a.toNat * 256 + b.shiftReg.toNat / 256 else b.shiftReg.toNat) ∧
          new.Nodup ∧ ∀ x, x ∈ new ↔ ∃ k, (k, x) ∈ soundMap p ∧ s.regs.a.getLsbD k.toNat = true

/-! ### Interrupts and the environment -/

/-- 60 sections 1 and 6 (R405, R436, decision D13; 00 R11 `irq`; the form is log 6): what the environment presents at a
boundary is the first listed event; past the list it is an Execute step at every boundary, or at every boundary what the
free value `irq` decides of the environment's state, or iteration after iteration of the scheduler's loop with what the
host then supplies. What is presented is spent, the two schedules without end go on, and nothing else changes. -/
def Obligations.WhatTheEnvironmentPresents : Prop :=
  ∀ s : State,
    (∀ e es, s.env.events = e :: es →
      s.env.presents = e ∧ s.presented = { s with env := { s.env with events := es } }) ∧
    (s.env.events = [] → s.env.later = .execute → s.env.presents = .execute ∧ s.presented = s) ∧
    (∀ n, s.env.events = [] → s.env.later = .requests n →
      s.env.presents = (match Config.irq s.env with
        | none => .execute
        | some v => .request v) ∧
      s.presented = { s with env := { s.env with later := .requests (n + 1) } }) ∧
    ∀ n, s.env.events = [] → s.env.later = .loop n →
      s.env.presents = .iterate (Config.hostSample s.env) ∧
      s.presented = { s with env := { s.env with later := .loop (n + 1) } }

/-- 60 R411: a request with INTE = 1 pushes PC, sets PC to 8 v and clears INTE; no flag and no other register changes. -/
def Obligations.DeliveryEntersTheVector : Prop :=
  ∀ (s : State) (v : BitVec 3), s.status = .running → s.env.presents = .request v → s.inte = true →
    ∃ t, step s = .next t ∧
      t.pc.toNat = 8 * v.toNat ∧ t.inte = false ∧ t.sp = s.sp - 2 ∧
      t.readByte (s.sp - 1) = (s.pc >>> 8).setWidth 8 ∧ t.readByte (s.sp - 2) = s.pc.setWidth 8 ∧
      t.env = s.presented.env ∧ Frame s t [.sp, .inte, .env] [s.sp - 1, s.sp - 2]

/-- 60 section 3 (R412, decision D15; R414, marked derived): a request with INTE = 0 is dropped and nothing of the core
changes; of two requests at one boundary the second is dropped; and a delivery comes before the fetch of an
unimplemented opcode at PC. -/
def Obligations.RequestsWithoutInteAreDropped : Prop :=
  (∀ (s : State) (v : BitVec 3), s.status = .running → s.env.presents = .request v → s.inte = false →
    step s = .next s.presented) ∧
  ∀ (s : State) (v w : BitVec 3),
    s.status = .running → s.env.presents = .request v → s.presented.env.presents = .request w → s.inte = true →
    ∃ t u, step s = .next t ∧ step t = .next u ∧
      t.status = .running ∧ u.pc = t.pc ∧ u.pc.toNat = 8 * v.toNat ∧ u.sp = t.sp ∧ u.mem = t.mem ∧
      u.inte = false ∧ u.env = s.presented.presented.env

/-- 60 R436, R447, sections 6 and 7 (decisions D14, D25 and D26): a write of a latch or the renderer's read changes the
environment alone. An iteration of the scheduler samples the latches and the clock; if the clock has reached the deadline
it presents the next vector, 1 or 2, and after 2 the renderer's read, swaps the vector and moves the deadline by 8; then
it presents 100 Execute steps and the quit if the signal is raised. Of the model's own form, not the spec's, are: that an
act and an iteration are steps of their own (log 6 and log 11; R404 knows Deliver and Execute), that the quit answers a
fault (log 9), the record of the rendered memory (log 8), and when a deadline is due (log 11). -/
def Obligations.HostActsChangeOnlyTheEnvironment : Prop :=
  ∀ s : State, s.status = .running →
    (∀ v, s.env.presents = .writeIn1 v → ∃ t, step s = .next t ∧ t = { s with env := t.env } ∧
      t.env = { s.presented.env with bridge := t.env.bridge } ∧
      ∀ b, s.env.bridge = some b → t.env.bridge = some { b with in1 := v }) ∧
    (∀ v, s.env.presents = .writeIn2 v → ∃ t, step s = .next t ∧ t = { s with env := t.env } ∧
      t.env = { s.presented.env with bridge := t.env.bridge } ∧
      ∀ b, s.env.bridge = some b → t.env.bridge = some { b with in2 := v }) ∧
    (s.env.presents = .render →
      step s = .next { s with env := { s.presented.env with rendered := some s.mem } }) ∧
    (s.env.presents = .quit → step s = .fault .quit) ∧
    ∀ x, s.env.presents = .iterate x → ∃ t, step s = .next t ∧ t = { s with env := t.env } ∧
      (∀ b, s.env.bridge = some b → t.env.bridge = some { b with in1 := x.in1, in2 := x.in2 }) ∧
      t.env.later = s.presented.env.later ∧
      t.env.scheduler.clock = s.env.scheduler.clock + x.elapsed ∧
      (if s.env.scheduler.deadline ≤ t.env.scheduler.clock then
        t.env.scheduler.deadline = s.env.scheduler.deadline + 8 ∧
        t.env.scheduler.nextVector ≠ s.env.scheduler.nextVector ∧
        t.env.events =
          (if s.env.scheduler.nextVector = .midScreen then [.request 1] else [.request 2, .render]) ++
            List.replicate 100 .execute ++ (if x.quit then [.quit] else []) ++ s.presented.env.events
      else
        t.env.scheduler.deadline = s.env.scheduler.deadline ∧
        t.env.scheduler.nextVector = s.env.scheduler.nextVector ∧
        t.env.events =
          List.replicate 100 .execute ++ (if x.quit then [.quit] else []) ++ s.presented.env.events)
end

