-- ==== Sys2Proof/Laws/Memory.lean ====
section
/-! SUPPORT. Memory: a read after a write, for every list, and the canonical form, which every memory operation keeps. -/

namespace Sys2Proof.Machine

/-! ### A read after a write -/

theorem Memory.read_erase (m : Memory) (k : Nat) (a : Word) :
    (m.erase k).read a = if a.toNat = k then unlistedByte else m.read a := by
  induction m with
  | nil => simp [Memory.erase, Memory.read]
  | cons c m ih =>
    obtain ⟨j, v⟩ := c
    simp only [Memory.erase] at ih ⊢
    by_cases hj : j = k
    · subst hj
      simp only [List.filter_cons, bne_self_eq_false, Bool.false_eq_true, if_false, ih, Memory.read]
      by_cases ha : a.toNat = j
      · simp [ha]
      · simp [ha, Ne.symm ha]
    · simp only [List.filter_cons, bne_iff_ne, ne_eq, hj, not_false_eq_true, if_true, Memory.read, ih]
      by_cases ha : j = a.toNat
      · subst ha; simp [hj]
      · simp [ha]

theorem Memory.read_place (m : Memory) (k : Nat) (v : Byte) (a : Word) (h : ∀ c ∈ m, c.1 ≠ k) :
    (m.place k v).read a = if a.toNat = k then v else m.read a := by
  induction m with
  | nil =>
    by_cases ha : a.toNat = k
    · simp [Memory.place, Memory.read, ha]
    · simp [Memory.place, Memory.read, ha, Ne.symm ha]
  | cons c m ih =>
    obtain ⟨j, w⟩ := c
    have hj : j ≠ k := h (j, w) (by simp)
    have ih := ih fun c hc => h c (by simp [hc])
    simp only [Memory.place]
    split
    · by_cases ha : a.toNat = k
      · simp [Memory.read, ha]
      · simp [Memory.read, ha, Ne.symm ha]
    · simp only [Memory.read, ih]
      by_cases ha : j = a.toNat
      · subst ha; simp [hj]
      · simp [ha]

theorem Memory.erase_absent (m : Memory) (k : Nat) : ∀ c ∈ m.erase k, c.1 ≠ k := by
  simp [Memory.erase]

/-- Memory as an array of bytes (20 R62): the byte written is read back and every other byte is kept. -/
@[simp] theorem Memory.read_write (m : Memory) (a x : Word) (v : Byte) :
    (m.write a v).read x = if x = a then v else m.read x := by
  have hx : x.toNat = a.toNat ↔ x = a := ⟨BitVec.eq_of_toNat_eq, fun h => h ▸ rfl⟩
  unfold Memory.write
  split
  · rename_i hv
    simp [Memory.read_erase, hx, hv]
  · rw [Memory.read_place _ _ _ _ (Memory.erase_absent m _), Memory.read_erase]
    by_cases h : x = a <;> simp [h, hx]

@[simp] theorem Memory.read_nil (a : Word) : Memory.read [] a = 0x00 := rfl

/-! ### The canonical form -/

theorem Memory.risesAbove_mono {m : Memory} {j k : Nat} (h : m.risesAbove k = true) (hjk : j ≤ k) :
    m.risesAbove j = true := by
  cases m with
  | nil => rfl
  | cons c m =>
    simp only [Memory.risesAbove, Bool.and_eq_true, decide_eq_true_eq] at h ⊢
    exact ⟨by omega, h.2⟩

theorem Memory.risesAbove_erase {m : Memory} (k : Nat) {j : Nat} (h : m.risesAbove j = true) :
    (m.erase k).risesAbove j = true := by
  induction m generalizing j with
  | nil => rfl
  | cons c m ih =>
    simp only [Memory.risesAbove, Bool.and_eq_true, decide_eq_true_eq] at h
    have ih := ih h.2
    simp only [Memory.erase, List.filter_cons] at ih ⊢
    split
    · simp [Memory.risesAbove, h.1, ih]
    · exact Memory.risesAbove_mono ih (by omega)

theorem Memory.risesAbove_place {m : Memory} {k j : Nat} (v : Byte) (h : m.risesAbove j = true) (hjk : j ≤ k)
    (hk : ∀ c ∈ m, c.1 ≠ k) : (m.place k v).risesAbove j = true := by
  induction m generalizing j with
  | nil => simp [Memory.place, Memory.risesAbove, hjk]
  | cons c m ih =>
    simp only [Memory.risesAbove, Bool.and_eq_true, decide_eq_true_eq] at h
    have hc : c.1 ≠ k := hk c (by simp)
    simp only [Memory.place]
    split
    · simp only [Memory.risesAbove, Bool.and_eq_true, decide_eq_true_eq]
      exact ⟨hjk, by omega, h.2⟩
    · simp only [Memory.risesAbove, Bool.and_eq_true, decide_eq_true_eq]
      exact ⟨h.1, ih h.2 (by omega) fun c hc => hk c (by simp [hc])⟩

theorem Memory.mem_place {m : Memory} {k : Nat} {v : Byte} {c : Host.Cell} (h : c ∈ m.place k v) :
    c = (k, v) ∨ c ∈ m := by
  induction m with
  | nil => simpa [Memory.place] using h
  | cons d m ih =>
    simp only [Memory.place] at h
    split at h
    · simpa using h
    · rcases List.mem_cons.1 h with h | h
      · simp [h]
      · rcases ih h with h | h <;> simp [h]

/-- What the canonical form says of the entries. -/
theorem Memory.wf_iff (m : Memory) : m.wf = true ↔
    m.risesAbove 0 = true ∧ ∀ c ∈ m, c.1 < Config.memoryBytes ∧ c.2 ≠ unlistedByte := by
  simp [Memory.wf]

theorem Memory.wf_nil : Memory.wf [] = true := rfl

/-- A write keeps the canonical form. -/
theorem Memory.wf_write {m : Memory} (h : m.wf = true) (a : Word) (v : Byte) : (m.write a v).wf = true := by
  rw [Memory.wf_iff] at h ⊢
  have he : ∀ c ∈ m.erase a.toNat, c.1 < Config.memoryBytes ∧ c.2 ≠ unlistedByte :=
    fun c hc => h.2 c ((List.mem_filter.1 hc).1)
  unfold Memory.write
  split
  · exact ⟨Memory.risesAbove_erase _ h.1, he⟩
  · rename_i hv
    refine ⟨Memory.risesAbove_place v (Memory.risesAbove_erase _ h.1) (Nat.zero_le _) (Memory.erase_absent m _), ?_⟩
    intro c hc
    rcases Memory.mem_place hc with rfl | hc
    · exact ⟨a.isLt, hv⟩
    · exact he c hc

/-- Loading an image keeps the canonical form. -/
theorem Memory.wf_load {m : Memory} (h : m.wf = true) (a : Word) (image : List Byte) : (m.load a image).wf = true := by
  induction image generalizing m a with
  | nil => exact h
  | cons v image ih => exact ih (Memory.wf_write h a v) (a + 1)

/-- Memory right after reset is canonical. -/
theorem Memory.wf_reset : State.reset.mem.wf = true := rfl

end Sys2Proof.Machine
end

