-- ==== Sys2Proof/Laws/State.lean ====
section
/-! SUPPORT. One lemma per field per update of the state, so that no proof unfolds a record update. -/

namespace Sys2Proof.Machine

/-! ### The register file -/

@[simp] theorem Regs.get_set (x : Regs) (r r' : Reg) (v : Byte) :
    (x.set r v).get r' = if r' = r then v else x.get r' := by
  cases r <;> cases r' <;> rfl

/-! ### setReg -/

@[simp] theorem State.setReg_regs (s : State) (r : Reg) (v : Byte) : (s.setReg r v).regs = s.regs.set r v := rfl
@[simp] theorem State.setReg_sp (s : State) (r : Reg) (v : Byte) : (s.setReg r v).sp = s.sp := rfl
@[simp] theorem State.setReg_pc (s : State) (r : Reg) (v : Byte) : (s.setReg r v).pc = s.pc := rfl
@[simp] theorem State.setReg_flags (s : State) (r : Reg) (v : Byte) : (s.setReg r v).flags = s.flags := rfl
@[simp] theorem State.setReg_inte (s : State) (r : Reg) (v : Byte) : (s.setReg r v).inte = s.inte := rfl
@[simp] theorem State.setReg_status (s : State) (r : Reg) (v : Byte) : (s.setReg r v).status = s.status := rfl
@[simp] theorem State.setReg_mem (s : State) (r : Reg) (v : Byte) : (s.setReg r v).mem = s.mem := rfl
@[simp] theorem State.setReg_env (s : State) (r : Reg) (v : Byte) : (s.setReg r v).env = s.env := rfl

/-! ### setPc -/

@[simp] theorem State.setPc_regs (s : State) (v : Word) : (s.setPc v).regs = s.regs := rfl
@[simp] theorem State.setPc_sp (s : State) (v : Word) : (s.setPc v).sp = s.sp := rfl
@[simp] theorem State.setPc_pc (s : State) (v : Word) : (s.setPc v).pc = v := rfl
@[simp] theorem State.setPc_flags (s : State) (v : Word) : (s.setPc v).flags = s.flags := rfl
@[simp] theorem State.setPc_inte (s : State) (v : Word) : (s.setPc v).inte = s.inte := rfl
@[simp] theorem State.setPc_status (s : State) (v : Word) : (s.setPc v).status = s.status := rfl
@[simp] theorem State.setPc_mem (s : State) (v : Word) : (s.setPc v).mem = s.mem := rfl
@[simp] theorem State.setPc_env (s : State) (v : Word) : (s.setPc v).env = s.env := rfl

/-! ### advance -/

@[simp] theorem State.advance_regs (s : State) (n : Word) : (s.advance n).regs = s.regs := rfl
@[simp] theorem State.advance_sp (s : State) (n : Word) : (s.advance n).sp = s.sp := rfl
@[simp] theorem State.advance_pc (s : State) (n : Word) : (s.advance n).pc = s.pc + n := rfl
@[simp] theorem State.advance_flags (s : State) (n : Word) : (s.advance n).flags = s.flags := rfl
@[simp] theorem State.advance_inte (s : State) (n : Word) : (s.advance n).inte = s.inte := rfl
@[simp] theorem State.advance_status (s : State) (n : Word) : (s.advance n).status = s.status := rfl
@[simp] theorem State.advance_mem (s : State) (n : Word) : (s.advance n).mem = s.mem := rfl
@[simp] theorem State.advance_env (s : State) (n : Word) : (s.advance n).env = s.env := rfl

/-! ### setSp -/

@[simp] theorem State.setSp_regs (s : State) (v : Word) : (s.setSp v).regs = s.regs := rfl
@[simp] theorem State.setSp_sp (s : State) (v : Word) : (s.setSp v).sp = v := rfl
@[simp] theorem State.setSp_pc (s : State) (v : Word) : (s.setSp v).pc = s.pc := rfl
@[simp] theorem State.setSp_flags (s : State) (v : Word) : (s.setSp v).flags = s.flags := rfl
@[simp] theorem State.setSp_inte (s : State) (v : Word) : (s.setSp v).inte = s.inte := rfl
@[simp] theorem State.setSp_status (s : State) (v : Word) : (s.setSp v).status = s.status := rfl
@[simp] theorem State.setSp_mem (s : State) (v : Word) : (s.setSp v).mem = s.mem := rfl
@[simp] theorem State.setSp_env (s : State) (v : Word) : (s.setSp v).env = s.env := rfl

/-! ### setFlags -/

@[simp] theorem State.setFlags_regs (s : State) (f : Flags) : (s.setFlags f).regs = s.regs := rfl
@[simp] theorem State.setFlags_sp (s : State) (f : Flags) : (s.setFlags f).sp = s.sp := rfl
@[simp] theorem State.setFlags_pc (s : State) (f : Flags) : (s.setFlags f).pc = s.pc := rfl
@[simp] theorem State.setFlags_flags (s : State) (f : Flags) : (s.setFlags f).flags = f := rfl
@[simp] theorem State.setFlags_inte (s : State) (f : Flags) : (s.setFlags f).inte = s.inte := rfl
@[simp] theorem State.setFlags_status (s : State) (f : Flags) : (s.setFlags f).status = s.status := rfl
@[simp] theorem State.setFlags_mem (s : State) (f : Flags) : (s.setFlags f).mem = s.mem := rfl
@[simp] theorem State.setFlags_env (s : State) (f : Flags) : (s.setFlags f).env = s.env := rfl

/-! ### setCarry -/

@[simp] theorem State.setCarry_regs (s : State) (c : Bool) : (s.setCarry c).regs = s.regs := rfl
@[simp] theorem State.setCarry_sp (s : State) (c : Bool) : (s.setCarry c).sp = s.sp := rfl
@[simp] theorem State.setCarry_pc (s : State) (c : Bool) : (s.setCarry c).pc = s.pc := rfl
@[simp] theorem State.setCarry_flags (s : State) (c : Bool) : (s.setCarry c).flags = { s.flags with cy := c } := rfl
@[simp] theorem State.setCarry_inte (s : State) (c : Bool) : (s.setCarry c).inte = s.inte := rfl
@[simp] theorem State.setCarry_status (s : State) (c : Bool) : (s.setCarry c).status = s.status := rfl
@[simp] theorem State.setCarry_mem (s : State) (c : Bool) : (s.setCarry c).mem = s.mem := rfl
@[simp] theorem State.setCarry_env (s : State) (c : Bool) : (s.setCarry c).env = s.env := rfl

/-! ### setInte -/

@[simp] theorem State.setInte_regs (s : State) (b : Bool) : (s.setInte b).regs = s.regs := rfl
@[simp] theorem State.setInte_sp (s : State) (b : Bool) : (s.setInte b).sp = s.sp := rfl
@[simp] theorem State.setInte_pc (s : State) (b : Bool) : (s.setInte b).pc = s.pc := rfl
@[simp] theorem State.setInte_flags (s : State) (b : Bool) : (s.setInte b).flags = s.flags := rfl
@[simp] theorem State.setInte_inte (s : State) (b : Bool) : (s.setInte b).inte = b := rfl
@[simp] theorem State.setInte_status (s : State) (b : Bool) : (s.setInte b).status = s.status := rfl
@[simp] theorem State.setInte_mem (s : State) (b : Bool) : (s.setInte b).mem = s.mem := rfl
@[simp] theorem State.setInte_env (s : State) (b : Bool) : (s.setInte b).env = s.env := rfl

/-! ### setStatus -/

@[simp] theorem State.setStatus_regs (s : State) (v : Status) : (s.setStatus v).regs = s.regs := rfl
@[simp] theorem State.setStatus_sp (s : State) (v : Status) : (s.setStatus v).sp = s.sp := rfl
@[simp] theorem State.setStatus_pc (s : State) (v : Status) : (s.setStatus v).pc = s.pc := rfl
@[simp] theorem State.setStatus_flags (s : State) (v : Status) : (s.setStatus v).flags = s.flags := rfl
@[simp] theorem State.setStatus_inte (s : State) (v : Status) : (s.setStatus v).inte = s.inte := rfl
@[simp] theorem State.setStatus_status (s : State) (v : Status) : (s.setStatus v).status = v := rfl
@[simp] theorem State.setStatus_mem (s : State) (v : Status) : (s.setStatus v).mem = s.mem := rfl
@[simp] theorem State.setStatus_env (s : State) (v : Status) : (s.setStatus v).env = s.env := rfl

/-! ### setMem -/

@[simp] theorem State.setMem_regs (s : State) (m : Memory) : (s.setMem m).regs = s.regs := rfl
@[simp] theorem State.setMem_sp (s : State) (m : Memory) : (s.setMem m).sp = s.sp := rfl
@[simp] theorem State.setMem_pc (s : State) (m : Memory) : (s.setMem m).pc = s.pc := rfl
@[simp] theorem State.setMem_flags (s : State) (m : Memory) : (s.setMem m).flags = s.flags := rfl
@[simp] theorem State.setMem_inte (s : State) (m : Memory) : (s.setMem m).inte = s.inte := rfl
@[simp] theorem State.setMem_status (s : State) (m : Memory) : (s.setMem m).status = s.status := rfl
@[simp] theorem State.setMem_mem (s : State) (m : Memory) : (s.setMem m).mem = m := rfl
@[simp] theorem State.setMem_env (s : State) (m : Memory) : (s.setMem m).env = s.env := rfl

/-! ### setEnv -/

@[simp] theorem State.setEnv_regs (s : State) (e : Env) : (s.setEnv e).regs = s.regs := rfl
@[simp] theorem State.setEnv_sp (s : State) (e : Env) : (s.setEnv e).sp = s.sp := rfl
@[simp] theorem State.setEnv_pc (s : State) (e : Env) : (s.setEnv e).pc = s.pc := rfl
@[simp] theorem State.setEnv_flags (s : State) (e : Env) : (s.setEnv e).flags = s.flags := rfl
@[simp] theorem State.setEnv_inte (s : State) (e : Env) : (s.setEnv e).inte = s.inte := rfl
@[simp] theorem State.setEnv_status (s : State) (e : Env) : (s.setEnv e).status = s.status := rfl
@[simp] theorem State.setEnv_mem (s : State) (e : Env) : (s.setEnv e).mem = s.mem := rfl
@[simp] theorem State.setEnv_env (s : State) (e : Env) : (s.setEnv e).env = e := rfl

/-! ### writeByte -/

@[simp] theorem State.writeByte_regs (s : State) (a : Word) (v : Byte) : (s.writeByte a v).regs = s.regs := rfl
@[simp] theorem State.writeByte_sp (s : State) (a : Word) (v : Byte) : (s.writeByte a v).sp = s.sp := rfl
@[simp] theorem State.writeByte_pc (s : State) (a : Word) (v : Byte) : (s.writeByte a v).pc = s.pc := rfl
@[simp] theorem State.writeByte_flags (s : State) (a : Word) (v : Byte) : (s.writeByte a v).flags = s.flags := rfl
@[simp] theorem State.writeByte_inte (s : State) (a : Word) (v : Byte) : (s.writeByte a v).inte = s.inte := rfl
@[simp] theorem State.writeByte_status (s : State) (a : Word) (v : Byte) : (s.writeByte a v).status = s.status := rfl
@[simp] theorem State.writeByte_mem (s : State) (a : Word) (v : Byte) : (s.writeByte a v).mem = s.mem.write a v := rfl
@[simp] theorem State.writeByte_env (s : State) (a : Word) (v : Byte) : (s.writeByte a v).env = s.env := rfl

/-! ### setPair, which writes the registers or SP -/

@[simp] theorem State.setPair_pc (s : State) (rp : Pair) (v : Word) : (s.setPair rp v).pc = s.pc := by
  cases rp <;> rfl
@[simp] theorem State.setPair_flags (s : State) (rp : Pair) (v : Word) : (s.setPair rp v).flags = s.flags := by
  cases rp <;> rfl
@[simp] theorem State.setPair_inte (s : State) (rp : Pair) (v : Word) : (s.setPair rp v).inte = s.inte := by
  cases rp <;> rfl
@[simp] theorem State.setPair_status (s : State) (rp : Pair) (v : Word) : (s.setPair rp v).status = s.status := by
  cases rp <;> rfl
@[simp] theorem State.setPair_mem (s : State) (rp : Pair) (v : Word) : (s.setPair rp v).mem = s.mem := by
  cases rp <;> rfl
@[simp] theorem State.setPair_env (s : State) (rp : Pair) (v : Word) : (s.setPair rp v).env = s.env := by
  cases rp <;> rfl

@[simp] theorem State.setPair_bc_regs (s : State) (v : Word) :
    (s.setPair .bc v).regs = { s.regs with b := hiByte v, c := loByte v } := rfl
@[simp] theorem State.setPair_de_regs (s : State) (v : Word) :
    (s.setPair .de v).regs = { s.regs with d := hiByte v, e := loByte v } := rfl
@[simp] theorem State.setPair_hl_regs (s : State) (v : Word) :
    (s.setPair .hl v).regs = { s.regs with h := hiByte v, l := loByte v } := rfl
@[simp] theorem State.setPair_sp_regs (s : State) (v : Word) : (s.setPair .sp v).regs = s.regs := rfl
@[simp] theorem State.setPair_bc_sp (s : State) (v : Word) : (s.setPair .bc v).sp = s.sp := rfl
@[simp] theorem State.setPair_de_sp (s : State) (v : Word) : (s.setPair .de v).sp = s.sp := rfl
@[simp] theorem State.setPair_hl_sp (s : State) (v : Word) : (s.setPair .hl v).sp = s.sp := rfl
@[simp] theorem State.setPair_sp_sp (s : State) (v : Word) : (s.setPair .sp v).sp = v := rfl

/-! ### Reads -/

@[simp] theorem State.getReg_setReg (s : State) (r r' : Reg) (v : Byte) :
    (s.setReg r v).getReg r' = if r' = r then v else s.getReg r' := Regs.get_set s.regs r r' v

/-- A read of a byte sees memory alone. -/
theorem State.readByte_eq (s : State) (x : Word) : s.readByte x = s.mem.read x := rfl

@[simp] theorem State.readByte_writeByte (s : State) (a x : Word) (v : Byte) :
    (s.writeByte a v).readByte x = if x = a then v else s.readByte x := Memory.read_write s.mem a x v

end Sys2Proof.Machine
end

