-- ==== Sys2Proof/Laws/Ops.lean ====
section
/-! SUPPORT. One lemma per shared operation: everything it can do. -/

namespace Sys2Proof.Machine

/-! ### Bytes and words -/

/-- The bits of a 16-bit value made of two bytes. -/
theorem getLsbD_wordOf (h l : Byte) (i : Nat) :
    (wordOf h l).getLsbD i = if i < 8 then l.getLsbD i else h.getLsbD (i - 8) := by
  have := BitVec.getLsbD_append (x := h) (y := l) (i := i)
  simpa [wordOf] using this

@[simp] theorem hiByte_wordOf (h l : Byte) : hiByte (wordOf h l) = h := by
  apply BitVec.eq_of_getLsbD_eq
  intro i hi
  simp [hiByte, getLsbD_wordOf, hi]

@[simp] theorem loByte_wordOf (h l : Byte) : loByte (wordOf h l) = l := by
  apply BitVec.eq_of_getLsbD_eq
  intro i hi
  simp [loByte, getLsbD_wordOf, hi]

@[simp] theorem wordOf_hiByte_loByte (v : Word) : wordOf (hiByte v) (loByte v) = v := by
  apply BitVec.eq_of_getLsbD_eq
  intro i hi
  by_cases h : i < 8
  · simp [loByte, getLsbD_wordOf, h]
  · simp [hiByte, getLsbD_wordOf, h, show i - 8 < 8 by omega, show 8 + (i - 8) = i by omega]

/-- The high byte is the value shifted right by 8. -/
theorem hiByte_eq (v : Word) : hiByte v = (v >>> 8).setWidth 8 := by
  apply BitVec.eq_of_getLsbD_eq
  intro i hi
  simp [hiByte, hi]

/-- The low byte is the value cut to 8 bits. -/
theorem loByte_eq (v : Word) : loByte v = v.setWidth 8 := by
  apply BitVec.eq_of_getLsbD_eq
  intro i hi
  simp [loByte, hi]

/-- The two addresses of a 16-bit access are different. -/
theorem ne_add_one (a : Word) : a + 1 ≠ a := by
  intro h; have := congrArg BitVec.toNat h; simp at this; omega

theorem sub_two_ne_sub_one (a : Word) : a - 2 ≠ a - 1 := by
  intro h; have := congrArg BitVec.toNat h; simp [BitVec.toNat_sub] at this; omega

/-! ### Memory and stack -/

/-- A 16-bit store (R63): the two bytes, every other byte, and nothing but memory. -/
theorem State.writeWord_spec (s : State) (a v : Word) :
    (∀ x, (s.writeWord a v).readByte x = if x = a + 1 then hiByte v else if x = a then loByte v else s.readByte x) ∧
    s.writeWord a v = { s with mem := (s.writeWord a v).mem } := by
  constructor
  · intro x; simp [State.writeWord]
  · rfl

/-- push16 (R250): the two bytes, every other byte, SP, and nothing else. -/
theorem State.push16_spec (s : State) (v : Word) :
    (∀ x, (s.push16 v).readByte x =
      if x = s.sp - 2 then loByte v else if x = s.sp - 1 then hiByte v else s.readByte x) ∧
    s.push16 v = { s with sp := s.sp - 2, mem := (s.push16 v).mem } := by
  constructor
  · intro x
    change (((s.writeByte (s.sp - 1) (hiByte v)).writeByte (s.sp - 2) (loByte v))).readByte x = _
    simp
  · rfl

/-- pop16 (R251): the value, SP, and nothing else. -/
theorem State.pop16_spec (s : State) :
    s.popValue = wordOf (s.readByte (s.sp + 1)) (s.readByte s.sp) ∧ s.popStack = { s with sp := s.sp + 2 } :=
  ⟨rfl, rfl⟩

/-- CALL, RST and interrupt entry: push16 of the return address, and PC. -/
theorem State.callTo_spec (s : State) (ret target : Word) :
    s.callTo ret target = { s.push16 ret with pc := target } := rfl

/-- RET: SP and PC, and nothing else. -/
theorem State.returnToCaller_spec (s : State) :
    s.returnToCaller = { s with sp := s.sp + 2, pc := wordOf (s.readByte (s.sp + 1)) (s.readByte s.sp) } := rfl

/-- Taking the one exception (R400): the status, and nothing else. -/
theorem State.raiseUnimplemented_spec (s : State) (op : Byte) :
    s.raiseUnimplemented op = { s with status := .faulted op s.pc } := rfl

/-- deliver(v) (R411, R412): with INTE = 1 a call of the vector that clears INTE, otherwise nothing. -/
theorem State.deliver_spec (s : State) (v : BitVec 3) :
    (s.inte = true → s.deliver v = { s.push16 s.pc with pc := vectorAddress v, inte := false }) ∧
    (s.inte = false → s.deliver v = s) := by
  constructor <;> intro h <;> simp [State.deliver, h]
  rfl

/-- The vector address is 8 times the number. -/
theorem vectorAddress_toNat (n : BitVec 3) : (vectorAddress n).toNat = 8 * n.toNat := by
  revert n; decide

/-- A write of memory by any of the operations keeps the canonical form. -/
theorem State.push16_wf {s : State} (h : s.mem.wf = true) (v : Word) : (s.push16 v).mem.wf = true :=
  Memory.wf_write (Memory.wf_write h _ _) _ _

theorem State.writeWord_wf {s : State} (h : s.mem.wf = true) (a v : Word) : (s.writeWord a v).mem.wf = true :=
  Memory.wf_write (Memory.wf_write h _ _) _ _

/-! ### Ports -/

/-- IoRead (R65): a settled answer changes nothing; a free one spends a draw; nothing else is touched. -/
theorem State.ioRead_spec (s : State) (port : Byte) :
    (∃ v, s.env.settledInput port = some v ∧ s.ioReadValue port = v ∧ s.ioReadState port = s) ∨
    (s.env.settledInput port = none ∧ s.ioReadValue port = Config.ioIn s.env port ∧
      s.ioReadState port = { s with env := { s.env with draws := s.env.draws + 1 } }) := by
  unfold State.ioReadValue State.ioReadState
  cases s.env.settledInput port
  · exact .inr ⟨rfl, rfl, rfl⟩
  · exact .inl ⟨_, rfl, rfl, rfl⟩

/-- An element taken out of a list and put before the rest is the list in another order. -/
theorem eraseIdx_perm {α : Type} {xs : List α} {k : Nat} (h : k < xs.length) : (xs[k] :: xs.eraseIdx k).Perm xs := by
  rw [List.eraseIdx_eq_take_drop_succ]
  refine List.perm_middle.symm.trans ?_
  rw [List.getElem_cons_drop h, List.take_append_drop]

/-- What is drawn from a list makes, with what is left, the list again. -/
theorem arrange_perm {α : Type} (choice : Nat → Nat) (n : Nat) (xs : List α) (h : n ≤ xs.length) :
    ∃ left, (arrange choice n xs ++ left).Perm xs ∧ (arrange choice n xs).length = n := by
  induction n generalizing xs with
  | zero => exact ⟨xs, by simp [arrange], rfl⟩
  | succ n ih =>
    have hk : choice n % xs.length < xs.length := Nat.mod_lt _ (by omega)
    have hl := List.length_eraseIdx_of_lt hk
    obtain ⟨left, hp, hn⟩ := ih (xs.eraseIdx (choice n % xs.length)) (by omega)
    refine ⟨left, ?_, ?_⟩
    · simp only [arrange, List.getElem?_eq_getElem hk, List.cons_append]
      exact (hp.cons _).trans (eraseIdx_perm hk)
    · simp [arrange, List.getElem?_eq_getElem hk, hn]

/-- Drawing all of a list puts it in some order. -/
theorem arrange_all_perm {α : Type} (choice : Nat → Nat) (xs : List α) :
    (arrange choice xs.length xs).Perm xs := by
  obtain ⟨left, hp, hn⟩ := arrange_perm choice xs.length xs (Nat.le_refl _)
  have : left = [] := by
    have := hp.length_eq
    rw [List.length_append, hn] at this
    exact List.eq_nil_of_length_eq_zero (by omega)
  simpa [this] using hp

/-- The sound map of a port (R444, R445): each of its sounds in turn, on bits that are all different. -/
theorem soundMap_spec (port : Byte) :
    (soundMap port).map Prod.snd = portSounds port ∧ ((soundMap port).map Prod.fst).Nodup := by
  have hs : (portSounds port).length ≤ 8 := by
    unfold portSounds
    repeat' split
    all_goals decide
  obtain ⟨left, hp, hn⟩ :=
    arrange_perm (Config.soundChoice port) (portSounds port).length ([0, 1, 2, 3, 4, 5, 6, 7] : List (BitVec 3)) hs
  refine ⟨List.map_snd_zip (by omega), ?_⟩
  unfold soundMap
  rw [List.map_fst_zip (by omega)]
  exact (List.nodup_append.1 (hp.nodup_iff.2 (by decide))).1

/-- The sounds of a write (R445), in whatever order they are played: those whose designated bit is 1, each once. -/
theorem Env.playedSounds_spec (e : Env) (port v : Byte) :
    (e.playedSounds port v).Perm (triggeredSounds port v) ∧
    ∀ x, x ∈ e.playedSounds port v ↔ ∃ k, (k, x) ∈ soundMap port ∧ v.getLsbD k.toNat = true := by
  have h := arrange_all_perm (Config.playChoice e) (triggeredSounds port v)
  refine ⟨h, fun x => h.mem_iff.trans ?_⟩
  simp [triggeredSounds]

/-- IoWrite (R65): only the environment changes. -/
theorem State.ioWrite_spec (s : State) (port v : Byte) : s.ioWrite port v = { s with env := (s.ioWrite port v).env } := by
  unfold State.ioWrite
  cases s.env.bridge <;> rfl

end Sys2Proof.Machine
end

