-- ==== Sys2Proof/Laws/Environment.lean ====
section
/-! SUPPORT. The boundary: what the environment presents, what that spends, and what a step of a running core then is. -/

namespace Sys2Proof.Machine

/-! ### presented -/

@[simp] theorem State.presented_regs (s : State) : s.presented.regs = s.regs := rfl
@[simp] theorem State.presented_sp (s : State) : s.presented.sp = s.sp := rfl
@[simp] theorem State.presented_pc (s : State) : s.presented.pc = s.pc := rfl
@[simp] theorem State.presented_flags (s : State) : s.presented.flags = s.flags := rfl
@[simp] theorem State.presented_inte (s : State) : s.presented.inte = s.inte := rfl
@[simp] theorem State.presented_status (s : State) : s.presented.status = s.status := rfl
@[simp] theorem State.presented_mem (s : State) : s.presented.mem = s.mem := rfl
@[simp] theorem State.presented_env (s : State) : s.presented.env = s.env.spent := rfl
@[simp] theorem State.presented_fetch (s : State) : s.presented.fetch = s.fetch := rfl

/-- What is presented changes the environment's plan alone. -/
theorem Env.spent_spec (e : Env) : e.spent = { e with events := e.spent.events, later := e.spent.later } := by
  unfold Env.spent
  split
  · rfl
  · split <;> rfl

@[simp] theorem Env.spent_bridge (e : Env) : e.spent.bridge = e.bridge := by rw [Env.spent_spec]
@[simp] theorem Env.spent_draws (e : Env) : e.spent.draws = e.draws := by rw [Env.spent_spec]
@[simp] theorem Env.spent_outputs (e : Env) : e.spent.outputs = e.outputs := by rw [Env.spent_spec]
@[simp] theorem Env.spent_plays (e : Env) : e.spent.plays = e.plays := by rw [Env.spent_spec]
@[simp] theorem Env.spent_scheduler (e : Env) : e.spent.scheduler = e.scheduler := by rw [Env.spent_spec]
@[simp] theorem Env.spent_rendered (e : Env) : e.spent.rendered = e.rendered := by rw [Env.spent_spec]

/-! ### The step -/

/-- The step of a running core (R404). -/
theorem step_running {s : State} (h : s.status = .running) : step s = s.presented.perform s.env.presents := by
  unfold step
  rw [h]
  rfl

/-- An Execute step runs the instruction at PC. -/
theorem step_execute {s : State} (h : s.status = .running) (he : s.env.presents = .execute) :
    step s = exec s.fetch s.presented := by
  rw [step_running h, he]
  rfl

/-- A Deliver step is deliver(v). -/
theorem step_request {s : State} {v : BitVec 3} (h : s.status = .running) (he : s.env.presents = .request v) :
    step s = .next (s.presented.deliver v) := by
  rw [step_running h, he]
  rfl

/-- A step that answers a next state was one of a running core: an Execute step, a Deliver step, or an act of the host
that changes nothing but the environment. -/
theorem step_cases {s t : State} (h : step s = .next t) :
    s.status = .running ∧
    (s.env.presents = .execute ∧ exec s.fetch s.presented = .next t ∨
     (∃ v, s.env.presents = .request v ∧ t = s.presented.deliver v) ∨
     t = { s with env := t.env } ∧ (t.env.rendered = s.env.rendered ∨ t.env.rendered = some s.mem)) := by
  unfold step at h
  split at h
  case h_1 hr =>
    refine ⟨hr, ?_⟩
    unfold State.boundary at h
    cases he : s.env.presents <;> rw [he] at h
    case execute => exact .inl ⟨rfl, h⟩
    case request v =>
      injection h with h
      exact .inr (.inl ⟨v, rfl, h.symm⟩)
    case writeIn1 v =>
      injection h with h
      subst h
      exact .inr (.inr ⟨rfl, .inl s.env.spent_rendered⟩)
    case writeIn2 v =>
      injection h with h
      subst h
      exact .inr (.inr ⟨rfl, .inl s.env.spent_rendered⟩)
    case render =>
      injection h with h
      subst h
      exact .inr (.inr ⟨rfl, .inr rfl⟩)
    case iterate x =>
      injection h with h
      subst h
      exact .inr (.inr ⟨rfl, .inl s.env.spent_rendered⟩)
    case quit => cases h
  case h_2 => cases h
  case h_3 => cases h

end Sys2Proof.Machine
end

