-- ==== Sys2Proof/Laws/Flags.lean ====
section
/-! SUPPORT. The flag engine and the ALU in numbers: one lemma per function (spec 00 R18, 41, 42, 43). -/

namespace Sys2Proof.Machine

theorem lowNibble_eq (v : Byte) : lowNibble v = v.toNat % 16 := by
  revert v; decide

/-- The flags of a result. -/
theorem AluResult.flags_spec (r : AluResult) :
    r.flags.z = decide (r.value = 0) ∧ r.flags.s = r.value.getLsbD 7 ∧
    r.flags.p = decide (popcount r.value % 2 = 0) ∧ r.flags.cy = r.cy ∧ r.flags.ac = r.ac :=
  ⟨rfl, rfl, rfl, rfl, rfl⟩

theorem toNat_bool_le (b : Bool) : b.toNat ≤ 1 := by cases b <;> decide

/-- add8 (R160): the sum, its carry out of bit 7 and its carry out of bit 3. -/
theorem add8_spec (a b : Byte) (cin : Bool) :
    (add8 a b cin).value.toNat = (a.toNat + b.toNat + cin.toNat) % 256 ∧
    (add8 a b cin).cy = decide (a.toNat + b.toNat + cin.toNat > 255) ∧
    (add8 a b cin).ac = decide (a.toNat % 16 + b.toNat % 16 + cin.toNat > 15) := by
  refine ⟨?_, rfl, ?_⟩
  · simp [add8]
  · simp [add8, lowNibble_eq]

/-- sub8 (R161): the difference, its borrow out of bit 7 and its borrow out of bit 3. -/
theorem sub8_spec (a b : Byte) (bin : Bool) :
    (sub8 a b bin).value.toNat = (a.toNat + 256 - (b.toNat + bin.toNat)) % 256 ∧
    (sub8 a b bin).cy = decide (a.toNat < b.toNat + bin.toNat) ∧
    (sub8 a b bin).ac = decide (a.toNat % 16 < b.toNat % 16 + bin.toNat) := by
  have ha := a.isLt
  have hb := b.isLt
  have hc := toNat_bool_le bin
  refine ⟨?_, ?_, ?_⟩
  · simp only [sub8, BitVec.toNat_ofInt]
    omega
  · simp only [sub8, decide_eq_decide]
    omega
  · simp only [sub8, lowNibble_eq, decide_eq_decide]
    omega

/-- Without a borrow-in the value of sub8 is the difference modulo 256. -/
theorem sub8_value (a b : Byte) : (sub8 a b false).value = a - b := by
  apply BitVec.eq_of_toNat_eq
  rw [(sub8_spec a b false).1, BitVec.toNat_sub]
  have := a.isLt
  have := b.isLt
  simp only [Bool.toNat_false]
  omega

/-- inc8 (R166) and dec8 (R168): the result, AC, and CY kept. -/
theorem inc8_spec (v : Byte) (cy : Bool) :
    (inc8 v cy).value.toNat = (v.toNat + 1) % 256 ∧ (inc8 v cy).cy = cy ∧
    (inc8 v cy).ac = decide (v.toNat % 16 = 15) := by
  refine ⟨by simp [inc8], rfl, ?_⟩
  simp only [inc8, lowNibble_eq]
  rfl

theorem dec8_spec (v : Byte) (cy : Bool) :
    (dec8 v cy).value.toNat = (v.toNat + 255) % 256 ∧ (dec8 v cy).cy = cy ∧
    (dec8 v cy).ac = decide (v.toNat % 16 = 0) := by
  refine ⟨?_, rfl, ?_⟩
  · simp only [dec8, BitVec.toNat_sub]
    simp [Nat.add_comm]
  · simp only [dec8, lowNibble_eq]
    rfl

/-- The flag byte (R252) and its unpacking (R253): unpacking a packed byte gives the flags back. -/
@[simp] theorem Flags.unpack_pack (f : Flags) : Flags.unpack f.pack = f := by
  obtain ⟨z, s, p, cy, ac⟩ := f
  revert z s p cy ac
  decide

end Sys2Proof.Machine
end

