-- ==== Sys2Proof/Laws/PerInstr.lean ====
section
/-! SUPPORT. Statements about every instruction as syntax, one lemma per constructor. -/

namespace Sys2Proof.Laws

/-- The opcode alone fixes the length (spec 30 R90): an instruction's bytes are an opcode byte and as many operand bytes
as that opcode fixes. -/
def OpcodeLength.Statement (i : Instr) : Prop :=
  ∃ op rest, encode i = op :: rest ∧ rest.length + 1 = opLength op

theorem OpcodeLength.nop : OpcodeLength.Statement .nop := ⟨_, _, rfl, rfl⟩
theorem OpcodeLength.lxiB (d : Word) : OpcodeLength.Statement (.lxiB d) := ⟨_, _, rfl, rfl⟩
theorem OpcodeLength.staxB : OpcodeLength.Statement .staxB := ⟨_, _, rfl, rfl⟩
theorem OpcodeLength.inxB : OpcodeLength.Statement .inxB := ⟨_, _, rfl, rfl⟩
theorem OpcodeLength.inrB : OpcodeLength.Statement .inrB := ⟨_, _, rfl, rfl⟩
theorem OpcodeLength.dcrB : OpcodeLength.Statement .dcrB := ⟨_, _, rfl, rfl⟩
theorem OpcodeLength.mviB (d : Byte) : OpcodeLength.Statement (.mviB d) := ⟨_, _, rfl, rfl⟩
theorem OpcodeLength.rlc : OpcodeLength.Statement .rlc := ⟨_, _, rfl, rfl⟩
theorem OpcodeLength.unimplemented08 : OpcodeLength.Statement .unimplemented08 := ⟨_, _, rfl, rfl⟩
theorem OpcodeLength.dadB : OpcodeLength.Statement .dadB := ⟨_, _, rfl, rfl⟩
theorem OpcodeLength.ldaxB : OpcodeLength.Statement .ldaxB := ⟨_, _, rfl, rfl⟩
theorem OpcodeLength.dcxB : OpcodeLength.Statement .dcxB := ⟨_, _, rfl, rfl⟩
theorem OpcodeLength.inrC : OpcodeLength.Statement .inrC := ⟨_, _, rfl, rfl⟩
theorem OpcodeLength.dcrC : OpcodeLength.Statement .dcrC := ⟨_, _, rfl, rfl⟩
theorem OpcodeLength.mviC (d : Byte) : OpcodeLength.Statement (.mviC d) := ⟨_, _, rfl, rfl⟩
theorem OpcodeLength.rrc : OpcodeLength.Statement .rrc := ⟨_, _, rfl, rfl⟩
theorem OpcodeLength.unimplemented10 : OpcodeLength.Statement .unimplemented10 := ⟨_, _, rfl, rfl⟩
theorem OpcodeLength.lxiD (d : Word) : OpcodeLength.Statement (.lxiD d) := ⟨_, _, rfl, rfl⟩
theorem OpcodeLength.staxD : OpcodeLength.Statement .staxD := ⟨_, _, rfl, rfl⟩
theorem OpcodeLength.inxD : OpcodeLength.Statement .inxD := ⟨_, _, rfl, rfl⟩
theorem OpcodeLength.inrD : OpcodeLength.Statement .inrD := ⟨_, _, rfl, rfl⟩
theorem OpcodeLength.dcrD : OpcodeLength.Statement .dcrD := ⟨_, _, rfl, rfl⟩
theorem OpcodeLength.mviD (d : Byte) : OpcodeLength.Statement (.mviD d) := ⟨_, _, rfl, rfl⟩
theorem OpcodeLength.ral : OpcodeLength.Statement .ral := ⟨_, _, rfl, rfl⟩
theorem OpcodeLength.unimplemented18 : OpcodeLength.Statement .unimplemented18 := ⟨_, _, rfl, rfl⟩
theorem OpcodeLength.dadD : OpcodeLength.Statement .dadD := ⟨_, _, rfl, rfl⟩
theorem OpcodeLength.ldaxD : OpcodeLength.Statement .ldaxD := ⟨_, _, rfl, rfl⟩
theorem OpcodeLength.dcxD : OpcodeLength.Statement .dcxD := ⟨_, _, rfl, rfl⟩
theorem OpcodeLength.inrE : OpcodeLength.Statement .inrE := ⟨_, _, rfl, rfl⟩
theorem OpcodeLength.dcrE : OpcodeLength.Statement .dcrE := ⟨_, _, rfl, rfl⟩
theorem OpcodeLength.mviE (d : Byte) : OpcodeLength.Statement (.mviE d) := ⟨_, _, rfl, rfl⟩
theorem OpcodeLength.rar : OpcodeLength.Statement .rar := ⟨_, _, rfl, rfl⟩
theorem OpcodeLength.unimplemented20 : OpcodeLength.Statement .unimplemented20 := ⟨_, _, rfl, rfl⟩
theorem OpcodeLength.lxiH (d : Word) : OpcodeLength.Statement (.lxiH d) := ⟨_, _, rfl, rfl⟩
theorem OpcodeLength.shld (d : Word) : OpcodeLength.Statement (.shld d) := ⟨_, _, rfl, rfl⟩
theorem OpcodeLength.inxH : OpcodeLength.Statement .inxH := ⟨_, _, rfl, rfl⟩
theorem OpcodeLength.inrH : OpcodeLength.Statement .inrH := ⟨_, _, rfl, rfl⟩
theorem OpcodeLength.dcrH : OpcodeLength.Statement .dcrH := ⟨_, _, rfl, rfl⟩
theorem OpcodeLength.mviH (d : Byte) : OpcodeLength.Statement (.mviH d) := ⟨_, _, rfl, rfl⟩
theorem OpcodeLength.daa : OpcodeLength.Statement .daa := ⟨_, _, rfl, rfl⟩
theorem OpcodeLength.unimplemented28 : OpcodeLength.Statement .unimplemented28 := ⟨_, _, rfl, rfl⟩
theorem OpcodeLength.dadH : OpcodeLength.Statement .dadH := ⟨_, _, rfl, rfl⟩
theorem OpcodeLength.lhld (d : Word) : OpcodeLength.Statement (.lhld d) := ⟨_, _, rfl, rfl⟩
theorem OpcodeLength.dcxH : OpcodeLength.Statement .dcxH := ⟨_, _, rfl, rfl⟩
theorem OpcodeLength.inrL : OpcodeLength.Statement .inrL := ⟨_, _, rfl, rfl⟩
theorem OpcodeLength.dcrL : OpcodeLength.Statement .dcrL := ⟨_, _, rfl, rfl⟩
theorem OpcodeLength.mviL (d : Byte) : OpcodeLength.Statement (.mviL d) := ⟨_, _, rfl, rfl⟩
theorem OpcodeLength.cma : OpcodeLength.Statement .cma := ⟨_, _, rfl, rfl⟩
theorem OpcodeLength.unimplemented30 : OpcodeLength.Statement .unimplemented30 := ⟨_, _, rfl, rfl⟩
theorem OpcodeLength.lxiSP (d : Word) : OpcodeLength.Statement (.lxiSP d) := ⟨_, _, rfl, rfl⟩
theorem OpcodeLength.sta (d : Word) : OpcodeLength.Statement (.sta d) := ⟨_, _, rfl, rfl⟩
theorem OpcodeLength.inxSP : OpcodeLength.Statement .inxSP := ⟨_, _, rfl, rfl⟩
theorem OpcodeLength.inrM : OpcodeLength.Statement .inrM := ⟨_, _, rfl, rfl⟩
theorem OpcodeLength.dcrM : OpcodeLength.Statement .dcrM := ⟨_, _, rfl, rfl⟩
theorem OpcodeLength.mviM (d : Byte) : OpcodeLength.Statement (.mviM d) := ⟨_, _, rfl, rfl⟩
theorem OpcodeLength.stc : OpcodeLength.Statement .stc := ⟨_, _, rfl, rfl⟩
theorem OpcodeLength.unimplemented38 : OpcodeLength.Statement .unimplemented38 := ⟨_, _, rfl, rfl⟩
theorem OpcodeLength.dadSP : OpcodeLength.Statement .dadSP := ⟨_, _, rfl, rfl⟩
theorem OpcodeLength.lda (d : Word) : OpcodeLength.Statement (.lda d) := ⟨_, _, rfl, rfl⟩
theorem OpcodeLength.dcxSP : OpcodeLength.Statement .dcxSP := ⟨_, _, rfl, rfl⟩
theorem OpcodeLength.inrA : OpcodeLength.Statement .inrA := ⟨_, _, rfl, rfl⟩
theorem OpcodeLength.dcrA : OpcodeLength.Statement .dcrA := ⟨_, _, rfl, rfl⟩
theorem OpcodeLength.mviA (d : Byte) : OpcodeLength.Statement (.mviA d) := ⟨_, _, rfl, rfl⟩
theorem OpcodeLength.cmc : OpcodeLength.Statement .cmc := ⟨_, _, rfl, rfl⟩
theorem OpcodeLength.movBB : OpcodeLength.Statement .movBB := ⟨_, _, rfl, rfl⟩
theorem OpcodeLength.movBC : OpcodeLength.Statement .movBC := ⟨_, _, rfl, rfl⟩
theorem OpcodeLength.movBD : OpcodeLength.Statement .movBD := ⟨_, _, rfl, rfl⟩
theorem OpcodeLength.movBE : OpcodeLength.Statement .movBE := ⟨_, _, rfl, rfl⟩
theorem OpcodeLength.movBH : OpcodeLength.Statement .movBH := ⟨_, _, rfl, rfl⟩
theorem OpcodeLength.movBL : OpcodeLength.Statement .movBL := ⟨_, _, rfl, rfl⟩
theorem OpcodeLength.movBM : OpcodeLength.Statement .movBM := ⟨_, _, rfl, rfl⟩
theorem OpcodeLength.movBA : OpcodeLength.Statement .movBA := ⟨_, _, rfl, rfl⟩
theorem OpcodeLength.movCB : OpcodeLength.Statement .movCB := ⟨_, _, rfl, rfl⟩
theorem OpcodeLength.movCC : OpcodeLength.Statement .movCC := ⟨_, _, rfl, rfl⟩
theorem OpcodeLength.movCD : OpcodeLength.Statement .movCD := ⟨_, _, rfl, rfl⟩
theorem OpcodeLength.movCE : OpcodeLength.Statement .movCE := ⟨_, _, rfl, rfl⟩
theorem OpcodeLength.movCH : OpcodeLength.Statement .movCH := ⟨_, _, rfl, rfl⟩
theorem OpcodeLength.movCL : OpcodeLength.Statement .movCL := ⟨_, _, rfl, rfl⟩
theorem OpcodeLength.movCM : OpcodeLength.Statement .movCM := ⟨_, _, rfl, rfl⟩
theorem OpcodeLength.movCA : OpcodeLength.Statement .movCA := ⟨_, _, rfl, rfl⟩
theorem OpcodeLength.movDB : OpcodeLength.Statement .movDB := ⟨_, _, rfl, rfl⟩
theorem OpcodeLength.movDC : OpcodeLength.Statement .movDC := ⟨_, _, rfl, rfl⟩
theorem OpcodeLength.movDD : OpcodeLength.Statement .movDD := ⟨_, _, rfl, rfl⟩
theorem OpcodeLength.movDE : OpcodeLength.Statement .movDE := ⟨_, _, rfl, rfl⟩
theorem OpcodeLength.movDH : OpcodeLength.Statement .movDH := ⟨_, _, rfl, rfl⟩
theorem OpcodeLength.movDL : OpcodeLength.Statement .movDL := ⟨_, _, rfl, rfl⟩
theorem OpcodeLength.movDM : OpcodeLength.Statement .movDM := ⟨_, _, rfl, rfl⟩
theorem OpcodeLength.movDA : OpcodeLength.Statement .movDA := ⟨_, _, rfl, rfl⟩
theorem OpcodeLength.movEB : OpcodeLength.Statement .movEB := ⟨_, _, rfl, rfl⟩
theorem OpcodeLength.movEC : OpcodeLength.Statement .movEC := ⟨_, _, rfl, rfl⟩
theorem OpcodeLength.movED : OpcodeLength.Statement .movED := ⟨_, _, rfl, rfl⟩
theorem OpcodeLength.movEE : OpcodeLength.Statement .movEE := ⟨_, _, rfl, rfl⟩
theorem OpcodeLength.movEH : OpcodeLength.Statement .movEH := ⟨_, _, rfl, rfl⟩
theorem OpcodeLength.movEL : OpcodeLength.Statement .movEL := ⟨_, _, rfl, rfl⟩
theorem OpcodeLength.movEM : OpcodeLength.Statement .movEM := ⟨_, _, rfl, rfl⟩
theorem OpcodeLength.movEA : OpcodeLength.Statement .movEA := ⟨_, _, rfl, rfl⟩
theorem OpcodeLength.movHB : OpcodeLength.Statement .movHB := ⟨_, _, rfl, rfl⟩
theorem OpcodeLength.movHC : OpcodeLength.Statement .movHC := ⟨_, _, rfl, rfl⟩
theorem OpcodeLength.movHD : OpcodeLength.Statement .movHD := ⟨_, _, rfl, rfl⟩
theorem OpcodeLength.movHE : OpcodeLength.Statement .movHE := ⟨_, _, rfl, rfl⟩
theorem OpcodeLength.movHH : OpcodeLength.Statement .movHH := ⟨_, _, rfl, rfl⟩
theorem OpcodeLength.movHL : OpcodeLength.Statement .movHL := ⟨_, _, rfl, rfl⟩
theorem OpcodeLength.movHM : OpcodeLength.Statement .movHM := ⟨_, _, rfl, rfl⟩
theorem OpcodeLength.movHA : OpcodeLength.Statement .movHA := ⟨_, _, rfl, rfl⟩
theorem OpcodeLength.movLB : OpcodeLength.Statement .movLB := ⟨_, _, rfl, rfl⟩
theorem OpcodeLength.movLC : OpcodeLength.Statement .movLC := ⟨_, _, rfl, rfl⟩
theorem OpcodeLength.movLD : OpcodeLength.Statement .movLD := ⟨_, _, rfl, rfl⟩
theorem OpcodeLength.movLE : OpcodeLength.Statement .movLE := ⟨_, _, rfl, rfl⟩
theorem OpcodeLength.movLH : OpcodeLength.Statement .movLH := ⟨_, _, rfl, rfl⟩
theorem OpcodeLength.movLL : OpcodeLength.Statement .movLL := ⟨_, _, rfl, rfl⟩
theorem OpcodeLength.movLM : OpcodeLength.Statement .movLM := ⟨_, _, rfl, rfl⟩
theorem OpcodeLength.movLA : OpcodeLength.Statement .movLA := ⟨_, _, rfl, rfl⟩
theorem OpcodeLength.movMB : OpcodeLength.Statement .movMB := ⟨_, _, rfl, rfl⟩
theorem OpcodeLength.movMC : OpcodeLength.Statement .movMC := ⟨_, _, rfl, rfl⟩
theorem OpcodeLength.movMD : OpcodeLength.Statement .movMD := ⟨_, _, rfl, rfl⟩
theorem OpcodeLength.movME : OpcodeLength.Statement .movME := ⟨_, _, rfl, rfl⟩
theorem OpcodeLength.movMH : OpcodeLength.Statement .movMH := ⟨_, _, rfl, rfl⟩
theorem OpcodeLength.movML : OpcodeLength.Statement .movML := ⟨_, _, rfl, rfl⟩
theorem OpcodeLength.hlt : OpcodeLength.Statement .hlt := ⟨_, _, rfl, rfl⟩
theorem OpcodeLength.movMA : OpcodeLength.Statement .movMA := ⟨_, _, rfl, rfl⟩
theorem OpcodeLength.movAB : OpcodeLength.Statement .movAB := ⟨_, _, rfl, rfl⟩
theorem OpcodeLength.movAC : OpcodeLength.Statement .movAC := ⟨_, _, rfl, rfl⟩
theorem OpcodeLength.movAD : OpcodeLength.Statement .movAD := ⟨_, _, rfl, rfl⟩
theorem OpcodeLength.movAE : OpcodeLength.Statement .movAE := ⟨_, _, rfl, rfl⟩
theorem OpcodeLength.movAH : OpcodeLength.Statement .movAH := ⟨_, _, rfl, rfl⟩
theorem OpcodeLength.movAL : OpcodeLength.Statement .movAL := ⟨_, _, rfl, rfl⟩
theorem OpcodeLength.movAM : OpcodeLength.Statement .movAM := ⟨_, _, rfl, rfl⟩
theorem OpcodeLength.movAA : OpcodeLength.Statement .movAA := ⟨_, _, rfl, rfl⟩
theorem OpcodeLength.addB : OpcodeLength.Statement .addB := ⟨_, _, rfl, rfl⟩
theorem OpcodeLength.addC : OpcodeLength.Statement .addC := ⟨_, _, rfl, rfl⟩
theorem OpcodeLength.addD : OpcodeLength.Statement .addD := ⟨_, _, rfl, rfl⟩
theorem OpcodeLength.addE : OpcodeLength.Statement .addE := ⟨_, _, rfl, rfl⟩
theorem OpcodeLength.addH : OpcodeLength.Statement .addH := ⟨_, _, rfl, rfl⟩
theorem OpcodeLength.addL : OpcodeLength.Statement .addL := ⟨_, _, rfl, rfl⟩
theorem OpcodeLength.addM : OpcodeLength.Statement .addM := ⟨_, _, rfl, rfl⟩
theorem OpcodeLength.addA : OpcodeLength.Statement .addA := ⟨_, _, rfl, rfl⟩
theorem OpcodeLength.adcB : OpcodeLength.Statement .adcB := ⟨_, _, rfl, rfl⟩
theorem OpcodeLength.adcC : OpcodeLength.Statement .adcC := ⟨_, _, rfl, rfl⟩
theorem OpcodeLength.adcD : OpcodeLength.Statement .adcD := ⟨_, _, rfl, rfl⟩
theorem OpcodeLength.adcE : OpcodeLength.Statement .adcE := ⟨_, _, rfl, rfl⟩
theorem OpcodeLength.adcH : OpcodeLength.Statement .adcH := ⟨_, _, rfl, rfl⟩
theorem OpcodeLength.adcL : OpcodeLength.Statement .adcL := ⟨_, _, rfl, rfl⟩
theorem OpcodeLength.adcM : OpcodeLength.Statement .adcM := ⟨_, _, rfl, rfl⟩
theorem OpcodeLength.adcA : OpcodeLength.Statement .adcA := ⟨_, _, rfl, rfl⟩
theorem OpcodeLength.subB : OpcodeLength.Statement .subB := ⟨_, _, rfl, rfl⟩
theorem OpcodeLength.subC : OpcodeLength.Statement .subC := ⟨_, _, rfl, rfl⟩
theorem OpcodeLength.subD : OpcodeLength.Statement .subD := ⟨_, _, rfl, rfl⟩
theorem OpcodeLength.subE : OpcodeLength.Statement .subE := ⟨_, _, rfl, rfl⟩
theorem OpcodeLength.subH : OpcodeLength.Statement .subH := ⟨_, _, rfl, rfl⟩
theorem OpcodeLength.subL : OpcodeLength.Statement .subL := ⟨_, _, rfl, rfl⟩
theorem OpcodeLength.subM : OpcodeLength.Statement .subM := ⟨_, _, rfl, rfl⟩
theorem OpcodeLength.subA : OpcodeLength.Statement .subA := ⟨_, _, rfl, rfl⟩
theorem OpcodeLength.sbbB : OpcodeLength.Statement .sbbB := ⟨_, _, rfl, rfl⟩
theorem OpcodeLength.sbbC : OpcodeLength.Statement .sbbC := ⟨_, _, rfl, rfl⟩
theorem OpcodeLength.sbbD : OpcodeLength.Statement .sbbD := ⟨_, _, rfl, rfl⟩
theorem OpcodeLength.sbbE : OpcodeLength.Statement .sbbE := ⟨_, _, rfl, rfl⟩
theorem OpcodeLength.sbbH : OpcodeLength.Statement .sbbH := ⟨_, _, rfl, rfl⟩
theorem OpcodeLength.sbbL : OpcodeLength.Statement .sbbL := ⟨_, _, rfl, rfl⟩
theorem OpcodeLength.sbbM : OpcodeLength.Statement .sbbM := ⟨_, _, rfl, rfl⟩
theorem OpcodeLength.sbbA : OpcodeLength.Statement .sbbA := ⟨_, _, rfl, rfl⟩
theorem OpcodeLength.anaB : OpcodeLength.Statement .anaB := ⟨_, _, rfl, rfl⟩
theorem OpcodeLength.anaC : OpcodeLength.Statement .anaC := ⟨_, _, rfl, rfl⟩
theorem OpcodeLength.anaD : OpcodeLength.Statement .anaD := ⟨_, _, rfl, rfl⟩
theorem OpcodeLength.anaE : OpcodeLength.Statement .anaE := ⟨_, _, rfl, rfl⟩
theorem OpcodeLength.anaH : OpcodeLength.Statement .anaH := ⟨_, _, rfl, rfl⟩
theorem OpcodeLength.anaL : OpcodeLength.Statement .anaL := ⟨_, _, rfl, rfl⟩
theorem OpcodeLength.anaM : OpcodeLength.Statement .anaM := ⟨_, _, rfl, rfl⟩
theorem OpcodeLength.anaA : OpcodeLength.Statement .anaA := ⟨_, _, rfl, rfl⟩
theorem OpcodeLength.xraB : OpcodeLength.Statement .xraB := ⟨_, _, rfl, rfl⟩
theorem OpcodeLength.xraC : OpcodeLength.Statement .xraC := ⟨_, _, rfl, rfl⟩
theorem OpcodeLength.xraD : OpcodeLength.Statement .xraD := ⟨_, _, rfl, rfl⟩
theorem OpcodeLength.xraE : OpcodeLength.Statement .xraE := ⟨_, _, rfl, rfl⟩
theorem OpcodeLength.xraH : OpcodeLength.Statement .xraH := ⟨_, _, rfl, rfl⟩
theorem OpcodeLength.xraL : OpcodeLength.Statement .xraL := ⟨_, _, rfl, rfl⟩
theorem OpcodeLength.xraM : OpcodeLength.Statement .xraM := ⟨_, _, rfl, rfl⟩
theorem OpcodeLength.xraA : OpcodeLength.Statement .xraA := ⟨_, _, rfl, rfl⟩
theorem OpcodeLength.oraB : OpcodeLength.Statement .oraB := ⟨_, _, rfl, rfl⟩
theorem OpcodeLength.oraC : OpcodeLength.Statement .oraC := ⟨_, _, rfl, rfl⟩
theorem OpcodeLength.oraD : OpcodeLength.Statement .oraD := ⟨_, _, rfl, rfl⟩
theorem OpcodeLength.oraE : OpcodeLength.Statement .oraE := ⟨_, _, rfl, rfl⟩
theorem OpcodeLength.oraH : OpcodeLength.Statement .oraH := ⟨_, _, rfl, rfl⟩
theorem OpcodeLength.oraL : OpcodeLength.Statement .oraL := ⟨_, _, rfl, rfl⟩
theorem OpcodeLength.oraM : OpcodeLength.Statement .oraM := ⟨_, _, rfl, rfl⟩
theorem OpcodeLength.oraA : OpcodeLength.Statement .oraA := ⟨_, _, rfl, rfl⟩
theorem OpcodeLength.cmpB : OpcodeLength.Statement .cmpB := ⟨_, _, rfl, rfl⟩
theorem OpcodeLength.cmpC : OpcodeLength.Statement .cmpC := ⟨_, _, rfl, rfl⟩
theorem OpcodeLength.cmpD : OpcodeLength.Statement .cmpD := ⟨_, _, rfl, rfl⟩
theorem OpcodeLength.cmpE : OpcodeLength.Statement .cmpE := ⟨_, _, rfl, rfl⟩
theorem OpcodeLength.cmpH : OpcodeLength.Statement .cmpH := ⟨_, _, rfl, rfl⟩
theorem OpcodeLength.cmpL : OpcodeLength.Statement .cmpL := ⟨_, _, rfl, rfl⟩
theorem OpcodeLength.cmpM : OpcodeLength.Statement .cmpM := ⟨_, _, rfl, rfl⟩
theorem OpcodeLength.cmpA : OpcodeLength.Statement .cmpA := ⟨_, _, rfl, rfl⟩
theorem OpcodeLength.rnz : OpcodeLength.Statement .rnz := ⟨_, _, rfl, rfl⟩
theorem OpcodeLength.popB : OpcodeLength.Statement .popB := ⟨_, _, rfl, rfl⟩
theorem OpcodeLength.jnz (d : Word) : OpcodeLength.Statement (.jnz d) := ⟨_, _, rfl, rfl⟩
theorem OpcodeLength.jmp (d : Word) : OpcodeLength.Statement (.jmp d) := ⟨_, _, rfl, rfl⟩
theorem OpcodeLength.cnz (d : Word) : OpcodeLength.Statement (.cnz d) := ⟨_, _, rfl, rfl⟩
theorem OpcodeLength.pushB : OpcodeLength.Statement .pushB := ⟨_, _, rfl, rfl⟩
theorem OpcodeLength.adi (d : Byte) : OpcodeLength.Statement (.adi d) := ⟨_, _, rfl, rfl⟩
theorem OpcodeLength.rst0 : OpcodeLength.Statement .rst0 := ⟨_, _, rfl, rfl⟩
theorem OpcodeLength.rz : OpcodeLength.Statement .rz := ⟨_, _, rfl, rfl⟩
theorem OpcodeLength.ret : OpcodeLength.Statement .ret := ⟨_, _, rfl, rfl⟩
theorem OpcodeLength.jz (d : Word) : OpcodeLength.Statement (.jz d) := ⟨_, _, rfl, rfl⟩
theorem OpcodeLength.unimplementedCB : OpcodeLength.Statement .unimplementedCB := ⟨_, _, rfl, rfl⟩
theorem OpcodeLength.cz (d : Word) : OpcodeLength.Statement (.cz d) := ⟨_, _, rfl, rfl⟩
theorem OpcodeLength.call (d : Word) : OpcodeLength.Statement (.call d) := ⟨_, _, rfl, rfl⟩
theorem OpcodeLength.aci (d : Byte) : OpcodeLength.Statement (.aci d) := ⟨_, _, rfl, rfl⟩
theorem OpcodeLength.rst1 : OpcodeLength.Statement .rst1 := ⟨_, _, rfl, rfl⟩
theorem OpcodeLength.rnc : OpcodeLength.Statement .rnc := ⟨_, _, rfl, rfl⟩
theorem OpcodeLength.popD : OpcodeLength.Statement .popD := ⟨_, _, rfl, rfl⟩
theorem OpcodeLength.jnc (d : Word) : OpcodeLength.Statement (.jnc d) := ⟨_, _, rfl, rfl⟩
theorem OpcodeLength.outPort (d : Byte) : OpcodeLength.Statement (.outPort d) := ⟨_, _, rfl, rfl⟩
theorem OpcodeLength.cnc (d : Word) : OpcodeLength.Statement (.cnc d) := ⟨_, _, rfl, rfl⟩
theorem OpcodeLength.pushD : OpcodeLength.Statement .pushD := ⟨_, _, rfl, rfl⟩
theorem OpcodeLength.sui (d : Byte) : OpcodeLength.Statement (.sui d) := ⟨_, _, rfl, rfl⟩
theorem OpcodeLength.rst2 : OpcodeLength.Statement .rst2 := ⟨_, _, rfl, rfl⟩
theorem OpcodeLength.rc : OpcodeLength.Statement .rc := ⟨_, _, rfl, rfl⟩
theorem OpcodeLength.unimplementedD9 : OpcodeLength.Statement .unimplementedD9 := ⟨_, _, rfl, rfl⟩
theorem OpcodeLength.jc (d : Word) : OpcodeLength.Statement (.jc d) := ⟨_, _, rfl, rfl⟩
theorem OpcodeLength.inPort (d : Byte) : OpcodeLength.Statement (.inPort d) := ⟨_, _, rfl, rfl⟩
theorem OpcodeLength.cc (d : Word) : OpcodeLength.Statement (.cc d) := ⟨_, _, rfl, rfl⟩
theorem OpcodeLength.unimplementedDD : OpcodeLength.Statement .unimplementedDD := ⟨_, _, rfl, rfl⟩
theorem OpcodeLength.sbi (d : Byte) : OpcodeLength.Statement (.sbi d) := ⟨_, _, rfl, rfl⟩
theorem OpcodeLength.rst3 : OpcodeLength.Statement .rst3 := ⟨_, _, rfl, rfl⟩
theorem OpcodeLength.rpo : OpcodeLength.Statement .rpo := ⟨_, _, rfl, rfl⟩
theorem OpcodeLength.popH : OpcodeLength.Statement .popH := ⟨_, _, rfl, rfl⟩
theorem OpcodeLength.jpo (d : Word) : OpcodeLength.Statement (.jpo d) := ⟨_, _, rfl, rfl⟩
theorem OpcodeLength.xthl : OpcodeLength.Statement .xthl := ⟨_, _, rfl, rfl⟩
theorem OpcodeLength.cpo (d : Word) : OpcodeLength.Statement (.cpo d) := ⟨_, _, rfl, rfl⟩
theorem OpcodeLength.pushH : OpcodeLength.Statement .pushH := ⟨_, _, rfl, rfl⟩
theorem OpcodeLength.ani (d : Byte) : OpcodeLength.Statement (.ani d) := ⟨_, _, rfl, rfl⟩
theorem OpcodeLength.rst4 : OpcodeLength.Statement .rst4 := ⟨_, _, rfl, rfl⟩
theorem OpcodeLength.rpe : OpcodeLength.Statement .rpe := ⟨_, _, rfl, rfl⟩
theorem OpcodeLength.pchl : OpcodeLength.Statement .pchl := ⟨_, _, rfl, rfl⟩
theorem OpcodeLength.jpe (d : Word) : OpcodeLength.Statement (.jpe d) := ⟨_, _, rfl, rfl⟩
theorem OpcodeLength.xchg : OpcodeLength.Statement .xchg := ⟨_, _, rfl, rfl⟩
theorem OpcodeLength.cpe (d : Word) : OpcodeLength.Statement (.cpe d) := ⟨_, _, rfl, rfl⟩
theorem OpcodeLength.unimplementedED : OpcodeLength.Statement .unimplementedED := ⟨_, _, rfl, rfl⟩
theorem OpcodeLength.xri (d : Byte) : OpcodeLength.Statement (.xri d) := ⟨_, _, rfl, rfl⟩
theorem OpcodeLength.rst5 : OpcodeLength.Statement .rst5 := ⟨_, _, rfl, rfl⟩
theorem OpcodeLength.rp : OpcodeLength.Statement .rp := ⟨_, _, rfl, rfl⟩
theorem OpcodeLength.popPSW : OpcodeLength.Statement .popPSW := ⟨_, _, rfl, rfl⟩
theorem OpcodeLength.jp (d : Word) : OpcodeLength.Statement (.jp d) := ⟨_, _, rfl, rfl⟩
theorem OpcodeLength.di : OpcodeLength.Statement .di := ⟨_, _, rfl, rfl⟩
theorem OpcodeLength.cp (d : Word) : OpcodeLength.Statement (.cp d) := ⟨_, _, rfl, rfl⟩
theorem OpcodeLength.pushPSW : OpcodeLength.Statement .pushPSW := ⟨_, _, rfl, rfl⟩
theorem OpcodeLength.ori (d : Byte) : OpcodeLength.Statement (.ori d) := ⟨_, _, rfl, rfl⟩
theorem OpcodeLength.rst6 : OpcodeLength.Statement .rst6 := ⟨_, _, rfl, rfl⟩
theorem OpcodeLength.rm : OpcodeLength.Statement .rm := ⟨_, _, rfl, rfl⟩
theorem OpcodeLength.sphl : OpcodeLength.Statement .sphl := ⟨_, _, rfl, rfl⟩
theorem OpcodeLength.jm (d : Word) : OpcodeLength.Statement (.jm d) := ⟨_, _, rfl, rfl⟩
theorem OpcodeLength.ei : OpcodeLength.Statement .ei := ⟨_, _, rfl, rfl⟩
theorem OpcodeLength.cm (d : Word) : OpcodeLength.Statement (.cm d) := ⟨_, _, rfl, rfl⟩
theorem OpcodeLength.unimplementedFD : OpcodeLength.Statement .unimplementedFD := ⟨_, _, rfl, rfl⟩
theorem OpcodeLength.cpi (d : Byte) : OpcodeLength.Statement (.cpi d) := ⟨_, _, rfl, rfl⟩
theorem OpcodeLength.rst7 : OpcodeLength.Statement .rst7 := ⟨_, _, rfl, rfl⟩

end Sys2Proof.Laws
end

