-- ==== Sys2Proof/Tests/Slice0.lean ====
section
/-! SUPPORT. The model's own tests: the well-formedness check, decoding by words written out from the spec's encodings,
the vectors of 95 section 2, the boundary's own steps, and a witness for every statement that has hypotheses. -/

namespace Sys2Proof.Tests

open Sys2Proof.Machine

/-! ### Helpers -/

/-- The port state of the harness of 95 section 2. -/
def quietBridge : PortBridge := { in1 := 0x00, in2 := 0x00, shiftReg := 0, shiftOffset := 0 }

/-- A state with this port bridge. -/
def withBridge (s : State) (b : PortBridge) : State := s.setEnv { s.env with bridge := some b }

/-- The harness state of 95 section 2: registers and flags 0, SP 0x2400, PC 0x0100 where a vector names no other. -/
def harness : State := withBridge { State.reset with sp := 0x2400, pc := 0x0100 } quietBridge

/-- A state with these bytes from PC on. -/
def withCode (s : State) (code : List Byte) : State := s.setMem (s.mem.load s.pc code)

/-- A state with these data bytes in memory. -/
def withData (s : State) (cells : List (Word × Byte)) : State :=
  s.setMem (cells.foldl (fun m c => m.write c.1 c.2) s.mem)

/-- What the step answers is a next state of which this holds. -/
def nextIs (o : Answer) (check : State → Bool) : Bool :=
  match o with
  | .next t => check t
  | .fault _ => false
  | .refused _ => false

/-- One step from a state, with this code at PC and these data bytes, ends in a state of which this holds. -/
def after (s : State) (code : List Byte) (cells : List (Word × Byte)) (check : State → Bool) : Bool :=
  nextIs (step (withData (withCode s code) cells)) check

/-- Flags written as the vectors write them: Z, S, P, CY, AC. -/
def flagsOf (z s p cy ac : Nat) : Flags :=
  { z := z == 1, s := s == 1, p := p == 1, cy := cy == 1, ac := ac == 1 }

/-- Something holds of the port bridge. -/
def bridgeOf (s : State) (check : PortBridge → Bool) : Bool :=
  match s.env.bridge with
  | some b => check b
  | none => false

/-- Each of these byte lists decodes to its instruction, with nothing left over. -/
def decodesTo (l : List (List Byte × Instr)) : Bool :=
  l.all fun x =>
    match decode x.1 with
    | .ok (i, rest) => i == x.2 && rest == []
    | .error _ => false

/-- All five flags 1. -/
def allOnes : Flags := { z := true, s := true, p := true, cy := true, ac := true }

/-- The harness with these events listed for the coming boundaries. -/
def presenting (es : List Event) : State := harness.setEnv { harness.env with events := es }

/-- The harness with nothing listed and this schedule for all boundaries to come. -/
def scheduled (c : Schedule) : State := harness.setEnv { harness.env with later := c }

/-! ### Well-formedness -/

/-- 30 R105: each of the twelve byte values is refused as an instruction that is not documented. -/
theorem test_unimplemented_rows_are_ill_formed :
    ∀ i ∈ [Instr.unimplemented08, .unimplemented10, .unimplemented18, .unimplemented20, .unimplemented28,
      .unimplemented30, .unimplemented38, .unimplementedCB, .unimplementedD9, .unimplementedDD, .unimplementedED,
      .unimplementedFD], ¬ i.WellFormed := by decide

/-- 30 R106: no operand value is reserved. -/
theorem test_every_operand_is_well_formed (d : Byte) (w : Word) :
    (Instr.mviA d).WellFormed ∧ (Instr.outPort d).WellFormed ∧ (Instr.jmp w).WellFormed ∧ Instr.hlt.WellFormed :=
  ⟨rfl, rfl, rfl, rfl⟩

/-! ### Decoding, every constructor -/

/-- R101: 01 DDD SSS with DDD = 000. -/
theorem test_decode_mov_b : decodesTo
   [([0b01000000], .movBB), ([0b01000001], .movBC), ([0b01000010], .movBD), ([0b01000011], .movBE),
    ([0b01000100], .movBH), ([0b01000101], .movBL), ([0b01000111], .movBA), ([0b01000110], .movBM)] =
      true := by decide

/-- R101: 01 DDD SSS with DDD = 001. -/
theorem test_decode_mov_c : decodesTo
   [([0b01001000], .movCB), ([0b01001001], .movCC), ([0b01001010], .movCD), ([0b01001011], .movCE),
    ([0b01001100], .movCH), ([0b01001101], .movCL), ([0b01001111], .movCA), ([0b01001110], .movCM)] =
      true := by decide

/-- R101: 01 DDD SSS with DDD = 010. -/
theorem test_decode_mov_d : decodesTo
   [([0b01010000], .movDB), ([0b01010001], .movDC), ([0b01010010], .movDD), ([0b01010011], .movDE),
    ([0b01010100], .movDH), ([0b01010101], .movDL), ([0b01010111], .movDA), ([0b01010110], .movDM)] =
      true := by decide

/-- R101: 01 DDD SSS with DDD = 011. -/
theorem test_decode_mov_e : decodesTo
   [([0b01011000], .movEB), ([0b01011001], .movEC), ([0b01011010], .movED), ([0b01011011], .movEE),
    ([0b01011100], .movEH), ([0b01011101], .movEL), ([0b01011111], .movEA), ([0b01011110], .movEM)] =
      true := by decide

/-- R101: 01 DDD SSS with DDD = 100. -/
theorem test_decode_mov_h : decodesTo
   [([0b01100000], .movHB), ([0b01100001], .movHC), ([0b01100010], .movHD), ([0b01100011], .movHE),
    ([0b01100100], .movHH), ([0b01100101], .movHL), ([0b01100111], .movHA), ([0b01100110], .movHM)] =
      true := by decide

/-- R101: 01 DDD SSS with DDD = 101. -/
theorem test_decode_mov_l : decodesTo
   [([0b01101000], .movLB), ([0b01101001], .movLC), ([0b01101010], .movLD), ([0b01101011], .movLE),
    ([0b01101100], .movLH), ([0b01101101], .movLL), ([0b01101111], .movLA), ([0b01101110], .movLM)] =
      true := by decide

/-- R101: 01 DDD SSS with DDD = 111. -/
theorem test_decode_mov_a : decodesTo
   [([0b01111000], .movAB), ([0b01111001], .movAC), ([0b01111010], .movAD), ([0b01111011], .movAE),
    ([0b01111100], .movAH), ([0b01111101], .movAL), ([0b01111111], .movAA), ([0b01111110], .movAM)] =
      true := by decide

/-- R101: 01 110 SSS, and HLT in the place of MOV M,M. -/
theorem test_decode_mov_m : decodesTo
   [([0b01110000], .movMB), ([0b01110001], .movMC), ([0b01110010], .movMD), ([0b01110011], .movME),
    ([0b01110100], .movMH), ([0b01110101], .movML), ([0b01110111], .movMA), ([0b01110110], .hlt)] =
      true := by decide

/-- R100: 00 DDD 110, then d8. -/
theorem test_decode_mvi : decodesTo
   [([0b00000110, 0xED], .mviB 0xED), ([0b00001110, 0xED], .mviC 0xED), ([0b00010110, 0xED], .mviD 0xED),
    ([0b00011110, 0xED], .mviE 0xED), ([0b00100110, 0xED], .mviH 0xED), ([0b00101110, 0xED], .mviL 0xED),
    ([0b00111110, 0xED], .mviA 0xED), ([0b00110110, 0xED], .mviM 0xED)] =
      true := by decide

/-- R100: 00 DDD 100. -/
theorem test_decode_inr : decodesTo
   [([0b00000100], .inrB), ([0b00001100], .inrC), ([0b00010100], .inrD), ([0b00011100], .inrE),
    ([0b00100100], .inrH), ([0b00101100], .inrL), ([0b00111100], .inrA), ([0b00110100], .inrM)] =
      true := by decide

/-- R100: 00 DDD 101. -/
theorem test_decode_dcr : decodesTo
   [([0b00000101], .dcrB), ([0b00001101], .dcrC), ([0b00010101], .dcrD), ([0b00011101], .dcrE),
    ([0b00100101], .dcrH), ([0b00101101], .dcrL), ([0b00111101], .dcrA), ([0b00110101], .dcrM)] =
      true := by decide

/-- R100: 00 RP 0001 then lo, hi; 00 RP 1001; 00 RP 0011; 00 RP 1011. -/
theorem test_decode_pairs : decodesTo
   [([0b00000001, 0x34, 0x12], .lxiB 0x1234), ([0b00001001], .dadB), ([0b00000011], .inxB), ([0b00001011], .dcxB),
    ([0b00010001, 0x34, 0x12], .lxiD 0x1234), ([0b00011001], .dadD), ([0b00010011], .inxD), ([0b00011011], .dcxD),
    ([0b00100001, 0x34, 0x12], .lxiH 0x1234), ([0b00101001], .dadH), ([0b00100011], .inxH), ([0b00101011], .dcxH),
    ([0b00110001, 0x34, 0x12], .lxiSP 0x1234), ([0b00111001], .dadSP), ([0b00110011], .inxSP),
    ([0b00111011], .dcxSP)] =
      true := by decide

/-- R100: op[2:0] = 010, stores with op[3] = 0 and loads with op[3] = 1, in RP order. -/
theorem test_decode_direct : decodesTo
   [([0b00000010], .staxB), ([0b00010010], .staxD), ([0b00100010, 0x34, 0x12], .shld 0x1234),
    ([0b00110010, 0x34, 0x12], .sta 0x1234), ([0b00001010], .ldaxB), ([0b00011010], .ldaxD),
    ([0b00101010, 0x34, 0x12], .lhld 0x1234), ([0b00111010, 0x34, 0x12], .lda 0x1234)] =
      true := by decide

/-- R100: op[2:0] = 111, by op[5:3]. -/
theorem test_decode_accumulator : decodesTo
   [([0b00000111], .rlc), ([0b00001111], .rrc), ([0b00010111], .ral), ([0b00011111], .rar), ([0b00100111], .daa),
    ([0b00101111], .cma), ([0b00110111], .stc), ([0b00111111], .cmc), ([0b00000000], .nop)] =
      true := by decide

/-- R98, R102, R103: 10 000 SSS, and 11 000 110 then d8. -/
theorem test_decode_add : decodesTo
   [([0b10000000], .addB), ([0b10000001], .addC), ([0b10000010], .addD), ([0b10000011], .addE),
    ([0b10000100], .addH), ([0b10000101], .addL), ([0b10000111], .addA), ([0b10000110], .addM),
    ([0b11000110, 0xED], .adi 0xED)] =
      true := by decide

/-- R98, R102, R103: 10 001 SSS, and 11 001 110 then d8. -/
theorem test_decode_adc : decodesTo
   [([0b10001000], .adcB), ([0b10001001], .adcC), ([0b10001010], .adcD), ([0b10001011], .adcE),
    ([0b10001100], .adcH), ([0b10001101], .adcL), ([0b10001111], .adcA), ([0b10001110], .adcM),
    ([0b11001110, 0xED], .aci 0xED)] =
      true := by decide

/-- R98, R102, R103: 10 010 SSS, and 11 010 110 then d8. -/
theorem test_decode_sub : decodesTo
   [([0b10010000], .subB), ([0b10010001], .subC), ([0b10010010], .subD), ([0b10010011], .subE),
    ([0b10010100], .subH), ([0b10010101], .subL), ([0b10010111], .subA), ([0b10010110], .subM),
    ([0b11010110, 0xED], .sui 0xED)] =
      true := by decide

/-- R98, R102, R103: 10 011 SSS, and 11 011 110 then d8. -/
theorem test_decode_sbb : decodesTo
   [([0b10011000], .sbbB), ([0b10011001], .sbbC), ([0b10011010], .sbbD), ([0b10011011], .sbbE),
    ([0b10011100], .sbbH), ([0b10011101], .sbbL), ([0b10011111], .sbbA), ([0b10011110], .sbbM),
    ([0b11011110, 0xED], .sbi 0xED)] =
      true := by decide

/-- R98, R102, R103: 10 100 SSS, and 11 100 110 then d8. -/
theorem test_decode_ana : decodesTo
   [([0b10100000], .anaB), ([0b10100001], .anaC), ([0b10100010], .anaD), ([0b10100011], .anaE),
    ([0b10100100], .anaH), ([0b10100101], .anaL), ([0b10100111], .anaA), ([0b10100110], .anaM),
    ([0b11100110, 0xED], .ani 0xED)] =
      true := by decide

/-- R98, R102, R103: 10 101 SSS, and 11 101 110 then d8. -/
theorem test_decode_xra : decodesTo
   [([0b10101000], .xraB), ([0b10101001], .xraC), ([0b10101010], .xraD), ([0b10101011], .xraE),
    ([0b10101100], .xraH), ([0b10101101], .xraL), ([0b10101111], .xraA), ([0b10101110], .xraM),
    ([0b11101110, 0xED], .xri 0xED)] =
      true := by decide

/-- R98, R102, R103: 10 110 SSS, and 11 110 110 then d8. -/
theorem test_decode_ora : decodesTo
   [([0b10110000], .oraB), ([0b10110001], .oraC), ([0b10110010], .oraD), ([0b10110011], .oraE),
    ([0b10110100], .oraH), ([0b10110101], .oraL), ([0b10110111], .oraA), ([0b10110110], .oraM),
    ([0b11110110, 0xED], .ori 0xED)] =
      true := by decide

/-- R98, R102, R103: 10 111 SSS, and 11 111 110 then d8. -/
theorem test_decode_cmp : decodesTo
   [([0b10111000], .cmpB), ([0b10111001], .cmpC), ([0b10111010], .cmpD), ([0b10111011], .cmpE),
    ([0b10111100], .cmpH), ([0b10111101], .cmpL), ([0b10111111], .cmpA), ([0b10111110], .cmpM),
    ([0b11111110, 0xED], .cpi 0xED)] =
      true := by decide

/-- R97, R103: 11 CCC 000. -/
theorem test_decode_returns : decodesTo
   [([0b11000000], .rnz), ([0b11001000], .rz), ([0b11010000], .rnc), ([0b11011000], .rc), ([0b11100000], .rpo),
    ([0b11101000], .rpe), ([0b11110000], .rp), ([0b11111000], .rm)] =
      true := by decide

/-- R97, R103: 11 CCC 010. -/
theorem test_decode_jumps : decodesTo
   [([0b11000010, 0x34, 0x12], .jnz 0x1234), ([0b11001010, 0x34, 0x12], .jz 0x1234),
    ([0b11010010, 0x34, 0x12], .jnc 0x1234), ([0b11011010, 0x34, 0x12], .jc 0x1234),
    ([0b11100010, 0x34, 0x12], .jpo 0x1234), ([0b11101010, 0x34, 0x12], .jpe 0x1234),
    ([0b11110010, 0x34, 0x12], .jp 0x1234), ([0b11111010, 0x34, 0x12], .jm 0x1234)] =
      true := by decide

/-- R97, R103: 11 CCC 100. -/
theorem test_decode_calls : decodesTo
   [([0b11000100, 0x34, 0x12], .cnz 0x1234), ([0b11001100, 0x34, 0x12], .cz 0x1234),
    ([0b11010100, 0x34, 0x12], .cnc 0x1234), ([0b11011100, 0x34, 0x12], .cc 0x1234),
    ([0b11100100, 0x34, 0x12], .cpo 0x1234), ([0b11101100, 0x34, 0x12], .cpe 0x1234),
    ([0b11110100, 0x34, 0x12], .cp 0x1234), ([0b11111100, 0x34, 0x12], .cm 0x1234)] =
      true := by decide

/-- R103: 11 NNN 111. -/
theorem test_decode_rst : decodesTo
   [([0b11000111], .rst0), ([0b11001111], .rst1), ([0b11010111], .rst2), ([0b11011111], .rst3),
    ([0b11100111], .rst4), ([0b11101111], .rst5), ([0b11110111], .rst6), ([0b11111111], .rst7)] =
      true := by decide

/-- R103: 11 RP 0001 and 11 RP 0101. -/
theorem test_decode_stack : decodesTo
   [([0b11000001], .popB), ([0b11000101], .pushB), ([0b11010001], .popD), ([0b11010101], .pushD),
    ([0b11100001], .popH), ([0b11100101], .pushH), ([0b11110001], .popPSW), ([0b11110101], .pushPSW)] =
      true := by decide

/-- R103, the opcodes of quadrant 11 that belong to no group. -/
theorem test_decode_others : decodesTo
   [([0b11000011, 0x34, 0x12], .jmp 0x1234), ([0b11001001], .ret), ([0b11001101, 0x34, 0x12], .call 0x1234),
    ([0b11010011, 0xED], .outPort 0xED), ([0b11011011, 0xED], .inPort 0xED), ([0b11100011], .xthl),
    ([0b11101001], .pchl), ([0b11101011], .xchg), ([0b11110011], .di), ([0b11111001], .sphl), ([0b11111011], .ei)] =
      true := by decide

/-- R105: the twelve byte values. -/
theorem test_decode_unimplemented : decodesTo
   [([0x08], .unimplemented08), ([0x10], .unimplemented10), ([0x18], .unimplemented18), ([0x20], .unimplemented20),
    ([0x28], .unimplemented28), ([0x30], .unimplemented30), ([0x38], .unimplemented38), ([0xCB], .unimplementedCB),
    ([0xD9], .unimplementedD9), ([0xDD], .unimplementedDD), ([0xED], .unimplementedED), ([0xFD], .unimplementedFD)] =
      true := by decide

/-- 30 R90: a list of bytes that ends inside an instruction, or is empty, is refused by name. -/
theorem test_decode_rejects_short_lists :
    decode [] = .error .noOpcode ∧ decode [0x3E] = .error .missingOperand ∧
    decode [0xC3, 0x34] = .error .missingOperand := ⟨rfl, rfl, rfl⟩

/-! ### The vectors of 95 section 2 -/

/-- V1: MOV C,B -/
theorem test_mov_c_b :
  (after { harness with regs := { Regs.zero with b := 0x12 } } [0x48] [] fun t =>
    t.regs.c == 0x12 && t.pc == 0x0101) = true := by decide

/-- V4: MOV H,M -/
theorem test_mov_h_m :
  (after { harness with regs := { Regs.zero with h := 0x20, l := 0x00 } } [0x66] [(0x2000, 0x31)] fun t =>
    t.regs.h == 0x31 && t.pc == 0x0101) = true := by decide

/-- V5: MOV M,B -/
theorem test_mov_m_b :
  (after { harness with regs := { Regs.zero with b := 0xFF, h := 0x24, l := 0x01 } } [0x70] [] fun t =>
    t.pc == 0x0101 && t.readByte 0x2401 == 0xFF) = true := by decide

/-- V8: MVI E,0xED (data byte 0xED does not fault) -/
theorem test_mvi_e :
  (after harness [0x1E, 0xED] [] fun t =>
    t.regs.e == 0xED && t.pc == 0x0102) = true := by decide

/-- V9: MVI B,d8 at pc=0xFFFF (immediate wraps to 0x0000) -/
theorem test_mvi_b :
  (after { harness with pc := 0xFFFF } [0x06, 0x77] [] fun t =>
    t.regs.b == 0x77 && t.pc == 0x0001) = true := by decide

/-- V10: MVI M,0x00 -/
theorem test_mvi_m :
  (after { harness with regs := { Regs.zero with h := 0x24, l := 0x00 } } [0x36, 0x00] [(0x2400, 0x99)] fun t =>
    t.pc == 0x0102 && t.readByte 0x2400 == 0x00) = true := by decide

/-- V12: LXI H,0x1234 -/
theorem test_lxi_h :
  (after harness [0x21, 0x34, 0x12] [] fun t =>
    t.regs.h == 0x12 && t.regs.l == 0x34 && t.pc == 0x0103) = true := by decide

/-- V14: LDA 0x2010 -/
theorem test_lda :
  (after harness [0x3A, 0x10, 0x20] [(0x2010, 0x07)] fun t =>
    t.regs.a == 0x07 && t.pc == 0x0103) = true := by decide

/-- V15: STA 0x20FF -/
theorem test_sta :
  (after { harness with regs := { Regs.zero with a := 0x99 } } [0x32, 0xFF, 0x20] [] fun t =>
    t.pc == 0x0103 && t.readByte 0x20FF == 0x99) = true := by decide

/-- V17: LHLD 0xFFFF (second byte from 0x0000) -/
theorem test_lhld :
  (after harness [0x2A, 0xFF, 0xFF] [(0x0000, 0xAB), (0xFFFF, 0xCD)] fun t =>
    t.regs.h == 0xAB && t.regs.l == 0xCD && t.pc == 0x0103) = true := by decide

/-- V19: SHLD 0xFFFF -/
theorem test_shld :
  (after { harness with regs := { Regs.zero with h := 0x12, l := 0x34 } } [0x22, 0xFF, 0xFF] [] fun t =>
    t.pc == 0x0103 && t.readByte 0x0000 == 0x12 && t.readByte 0xFFFF == 0x34) = true := by decide

/-- V20: LDAX D -/
theorem test_ldax_d :
  (after { harness with regs := { Regs.zero with d := 0x1F, e := 0xFF } } [0x1A] [(0x1FFF, 0x42)] fun t =>
    t.regs.a == 0x42 && t.pc == 0x0101) = true := by decide

/-- V23: STAX D -/
theorem test_stax_d :
  (after { harness with regs := { Regs.zero with a := 0x5A, d := 0x30, e := 0x01 } } [0x12] [] fun t =>
    t.pc == 0x0101 && t.readByte 0x3001 == 0x5A) = true := by decide

/-- V24: XCHG -/
theorem test_xchg :
  (after { harness with regs := { Regs.zero with d := 0x12, e := 0x34, h := 0xAB, l := 0xCD } } [0xEB] [] fun t =>
    t.regs.d == 0xAB && t.regs.e == 0xCD && t.regs.h == 0x12 && t.regs.l == 0x34 && t.pc == 0x0101) = true := by decide

/-- V25: INX B (wraps) -/
theorem test_inx_b :
  (after { harness with regs := { Regs.zero with b := 0xFF, c := 0xFF } } [0x03] [] fun t =>
    t.regs.b == 0x00 && t.regs.c == 0x00 && t.pc == 0x0101 && t.flags == flagsOf 0 0 0 0 0) = true := by decide

/-- V27: DCX D (wraps) -/
theorem test_dcx_d :
  (after { harness with regs := { Regs.zero with d := 0x00, e := 0x00 } } [0x1B] [] fun t =>
    t.regs.d == 0xFF && t.regs.e == 0xFF && t.pc == 0x0101) = true := by decide

/-- V30: INR A, 0xFF wraps, CY kept -/
theorem test_inr_a :
  (after { harness with regs := { Regs.zero with a := 0xFF }, flags := { Flags.zero with cy := true } } [0x3C] [] fun
      t =>
    t.regs.a == 0x00 && t.pc == 0x0101 && t.flags == flagsOf 1 0 1 1 1) = true := by decide

/-- V32: INR M -/
theorem test_inr_m :
  (after { harness with regs := { Regs.zero with h := 0x20, l := 0x00 } } [0x34] [(0x2000, 0xFF)] fun t =>
    t.pc == 0x0101 && t.flags == flagsOf 1 0 1 0 1 && t.readByte 0x2000 == 0x00) = true := by decide

/-- V34: DCR B, 0x00 wraps -/
theorem test_dcr_b :
  (after { harness with regs := { Regs.zero with b := 0x00 }, flags := { Flags.zero with cy := true } } [0x05] [] fun
      t =>
    t.regs.b == 0xFF && t.pc == 0x0101 && t.flags == flagsOf 0 1 1 1 1) = true := by decide

/-- V37: DCR M -/
theorem test_dcr_m :
  (after { harness with regs := { Regs.zero with h := 0x20, l := 0x00 } } [0x35] [(0x2000, 0x01)] fun t =>
    t.pc == 0x0101 && t.flags == flagsOf 1 0 1 0 0 && t.readByte 0x2000 == 0x00) = true := by decide

/-- V38: ADD B -/
theorem test_add_b :
  (after { harness with regs := { Regs.zero with a := 0x3E, b := 0xC2 } } [0x80] [] fun t =>
    t.regs.a == 0x00 && t.pc == 0x0101 && t.flags == flagsOf 1 0 1 1 1) = true := by decide

/-- V42: ADD M -/
theorem test_add_m :
  (after { harness with regs := { Regs.zero with a := 0xFF, h := 0x20, l := 0x00 } } [0x86] [(0x2000, 0x01)] fun t =>
    t.regs.a == 0x00 && t.pc == 0x0101 && t.flags == flagsOf 1 0 1 1 1) = true := by decide

/-- V43: ADI 0xC1 -/
theorem test_adi :
  (after { harness with regs := { Regs.zero with a := 0x3E } } [0xC6, 0xC1] [] fun t =>
    t.regs.a == 0xFF && t.pc == 0x0102 && t.flags == flagsOf 0 1 1 0 0) = true := by decide

/-- V45: ADC C -/
theorem test_adc_c :
  (after { harness with regs := { Regs.zero with a := 0x0F, c := 0x00 }, flags := { Flags.zero with cy := true } }
      [0x89] [] fun t =>
    t.regs.a == 0x10 && t.pc == 0x0101 && t.flags == flagsOf 0 0 0 0 1) = true := by decide

/-- V47: ADC M -/
theorem test_adc_m :
  (after { harness with regs := { Regs.zero with a := 0x01, h := 0x20, l := 0x00 }, flags := { Flags.zero with cy :=
      true } } [0x8E] [(0x2000, 0xFE)] fun t =>
    t.regs.a == 0x00 && t.pc == 0x0101 && t.flags == flagsOf 1 0 1 1 1) = true := by decide

/-- V48: ACI 0x00 with CY=1 -/
theorem test_aci :
  (after { harness with regs := { Regs.zero with a := 0xFF }, flags := { Flags.zero with cy := true } } [0xCE, 0x00]
      [] fun t =>
    t.regs.a == 0x00 && t.pc == 0x0102 && t.flags == flagsOf 1 0 1 1 1) = true := by decide

/-- V51: SUB C, borrow -/
theorem test_sub_c :
  (after { harness with regs := { Regs.zero with a := 0x02, c := 0x05 } } [0x91] [] fun t =>
    t.regs.a == 0xFD && t.pc == 0x0101 && t.flags == flagsOf 0 1 0 1 1) = true := by decide

/-- V52: SUB M -/
theorem test_sub_m :
  (after { harness with regs := { Regs.zero with a := 0x10, h := 0x20, l := 0x00 } } [0x96] [(0x2000, 0x01)] fun t =>
    t.regs.a == 0x0F && t.pc == 0x0101 && t.flags == flagsOf 0 0 1 0 1) = true := by decide

/-- V53: SUI 0x01 -/
theorem test_sui :
  (after { harness with regs := { Regs.zero with a := 0x00 } } [0xD6, 0x01] [] fun t =>
    t.regs.a == 0xFF && t.pc == 0x0102 && t.flags == flagsOf 0 1 1 1 1) = true := by decide

/-- V55: SBB A with CY=1 -/
theorem test_sbb_a :
  (after { harness with regs := { Regs.zero with a := 0x40 }, flags := { Flags.zero with cy := true } } [0x9F] [] fun
      t =>
    t.regs.a == 0xFF && t.pc == 0x0101 && t.flags == flagsOf 0 1 1 1 1) = true := by decide

/-- V56: SBB M -/
theorem test_sbb_m :
  (after { harness with regs := { Regs.zero with a := 0x00, h := 0x20, l := 0x00 }, flags := { Flags.zero with cy :=
      true } } [0x9E] [(0x2000, 0x00)] fun t =>
    t.regs.a == 0xFF && t.pc == 0x0101 && t.flags == flagsOf 0 1 1 1 1) = true := by decide

/-- V57: SBI 0xFF with CY=0 -/
theorem test_sbi :
  (after { harness with regs := { Regs.zero with a := 0xFF } } [0xDE, 0xFF] [] fun t =>
    t.regs.a == 0x00 && t.pc == 0x0102 && t.flags == flagsOf 1 0 1 0 0) = true := by decide

/-- V58: DAD B -/
theorem test_dad_b :
  (after { harness with regs := { Regs.zero with b := 0x00, c := 0x01, h := 0xFF, l := 0xFF }, flags := { Flags.zero
      with z := true } } [0x09] [] fun t =>
    t.regs.h == 0x00 && t.regs.l == 0x00 && t.pc == 0x0101 && t.flags == flagsOf 1 0 0 1 0) = true := by decide

/-- V59: DAD H -/
theorem test_dad_h :
  (after { harness with regs := { Regs.zero with h := 0x81, l := 0x23 } } [0x29] [] fun t =>
    t.regs.h == 0x02 && t.regs.l == 0x46 && t.pc == 0x0101 && t.flags == flagsOf 0 0 0 1 0) = true := by decide

/-- V60: DAD SP -/
theorem test_dad_sp :
  (after { harness with regs := { Regs.zero with h := 0x10, l := 0x00 }, sp := 0x2400 } [0x39] [] fun t =>
    t.regs.h == 0x34 && t.pc == 0x0101 && t.flags == flagsOf 0 0 0 0 0) = true := by decide

/-- V62: ANA B -/
theorem test_ana_b :
  (after { harness with regs := { Regs.zero with a := 0xFC, b := 0x0F }, flags := { Flags.zero with cy := true } }
      [0xA0] [] fun t =>
    t.regs.a == 0x0C && t.pc == 0x0101 && t.flags == flagsOf 0 0 1 0 1) = true := by decide

/-- V64: ANA M -/
theorem test_ana_m :
  (after { harness with regs := { Regs.zero with a := 0xF0, h := 0x20, l := 0x00 } } [0xA6] [(0x2000, 0x07)] fun t =>
    t.regs.a == 0x00 && t.pc == 0x0101 && t.flags == flagsOf 1 0 1 0 0) = true := by decide

/-- V65: ANI 0x80 -/
theorem test_ani :
  (after { harness with regs := { Regs.zero with a := 0x81 } } [0xE6, 0x80] [] fun t =>
    t.regs.a == 0x80 && t.pc == 0x0102 && t.flags == flagsOf 0 1 0 0 0) = true := by decide

/-- V66: XRA A -/
theorem test_xra_a :
  (after { harness with regs := { Regs.zero with a := 0x5A }, flags := { Flags.zero with cy := true, ac := true } }
      [0xAF] [] fun t =>
    t.regs.a == 0x00 && t.pc == 0x0101 && t.flags == flagsOf 1 0 1 0 0) = true := by decide

/-- V68: XRA M -/
theorem test_xra_m :
  (after { harness with regs := { Regs.zero with a := 0x55, h := 0x20, l := 0x00 } } [0xAE] [(0x2000, 0xAA)] fun t =>
    t.regs.a == 0xFF && t.pc == 0x0101 && t.flags == flagsOf 0 1 1 0 0) = true := by decide

/-- V69: XRI 0x01 -/
theorem test_xri :
  (after { harness with regs := { Regs.zero with a := 0x01 } } [0xEE, 0x01] [] fun t =>
    t.regs.a == 0x00 && t.pc == 0x0102 && t.flags == flagsOf 1 0 1 0 0) = true := by decide

/-- V70: ORA B -/
theorem test_ora_b :
  (after { harness with regs := { Regs.zero with a := 0x10, b := 0x01 }, flags := { Flags.zero with cy := true, ac :=
      true } } [0xB0] [] fun t =>
    t.regs.a == 0x11 && t.pc == 0x0101 && t.flags == flagsOf 0 0 1 0 0) = true := by decide

/-- V71: ORA M -/
theorem test_ora_m :
  (after { harness with regs := { Regs.zero with a := 0x00, h := 0x20, l := 0x00 } } [0xB6] [(0x2000, 0x00)] fun t =>
    t.pc == 0x0101 && t.flags == flagsOf 1 0 1 0 0) = true := by decide

/-- V72: ORI 0x80 -/
theorem test_ori :
  (after { harness with regs := { Regs.zero with a := 0x00 } } [0xF6, 0x80] [] fun t =>
    t.regs.a == 0x80 && t.pc == 0x0102 && t.flags == flagsOf 0 1 0 0 0) = true := by decide

/-- V73: CMP E, A greater -/
theorem test_cmp_e :
  (after { harness with regs := { Regs.zero with a := 0x0A, e := 0x05 } } [0xBB] [] fun t =>
    t.pc == 0x0101 && t.flags == flagsOf 0 0 1 0 0) = true := by decide

/-- V75: CMP M, A less -/
theorem test_cmp_m :
  (after { harness with regs := { Regs.zero with a := 0x02, h := 0x20, l := 0x00 } } [0xBE] [(0x2000, 0x05)] fun t =>
    t.pc == 0x0101 && t.flags == flagsOf 0 1 0 1 1) = true := by decide

/-- V76: CPI 0x40, equal -/
theorem test_cpi :
  (after { harness with regs := { Regs.zero with a := 0x40 } } [0xFE, 0x40] [] fun t =>
    t.pc == 0x0102 && t.flags == flagsOf 1 0 1 0 0) = true := by decide

/-- V77: RLC -/
theorem test_rlc :
  (after { harness with regs := { Regs.zero with a := 0xF2 } } [0x07] [] fun t =>
    t.regs.a == 0xE5 && t.pc == 0x0101 && t.flags == flagsOf 0 0 0 1 0) = true := by decide

/-- V80: RRC, 0x01 -/
theorem test_rrc :
  (after { harness with regs := { Regs.zero with a := 0x01 } } [0x0F] [] fun t =>
    t.regs.a == 0x80 && t.pc == 0x0101 && t.flags == flagsOf 0 0 0 1 0) = true := by decide

/-- V82: RAL, CY into bit 0 -/
theorem test_ral :
  (after { harness with regs := { Regs.zero with a := 0x00 }, flags := { Flags.zero with cy := true } } [0x17] [] fun
      t =>
    t.regs.a == 0x01 && t.pc == 0x0101 && t.flags == flagsOf 0 0 0 0 0) = true := by decide

/-- V83: RAR -/
theorem test_rar :
  (after { harness with regs := { Regs.zero with a := 0x6A }, flags := { Flags.zero with cy := true } } [0x1F] [] fun
      t =>
    t.regs.a == 0xB5 && t.pc == 0x0101 && t.flags == flagsOf 0 0 0 0 0) = true := by decide

/-- V85: DAA, both corrections -/
theorem test_daa :
  (after { harness with regs := { Regs.zero with a := 0x9B } } [0x27] [] fun t =>
    t.regs.a == 0x01 && t.pc == 0x0101 && t.flags == flagsOf 0 0 0 1 1) = true := by decide

/-- V89: DAA, 0xFA -/
theorem test_daa_again :
  (after { harness with regs := { Regs.zero with a := 0xFA } } [0x27] [] fun t =>
    t.regs.a == 0x60 && t.pc == 0x0101 && t.flags == flagsOf 0 0 1 1 1) = true := by decide

/-- V92: CMA -/
theorem test_cma :
  (after { harness with regs := { Regs.zero with a := 0x51 } } [0x2F] [] fun t =>
    t.regs.a == 0xAE && t.pc == 0x0101 && t.flags == flagsOf 0 0 0 0 0) = true := by decide

/-- V93: STC -/
theorem test_stc :
  (after harness [0x37] [] fun t =>
    t.pc == 0x0101 && t.flags == flagsOf 0 0 0 1 0) = true := by decide

/-- V94: CMC -/
theorem test_cmc :
  (after { harness with flags := { Flags.zero with cy := true } } [0x3F] [] fun t =>
    t.pc == 0x0101 && t.flags == flagsOf 0 0 0 0 0) = true := by decide

/-- V96: PUSH B -/
theorem test_push_b :
  (after { harness with regs := { Regs.zero with b := 0x12, c := 0x34 } } [0xC5] [] fun t =>
    t.sp == 0x23FE && t.pc == 0x0101 && t.readByte 0x23FE == 0x34 && t.readByte 0x23FF == 0x12) = true := by decide

/-- V97: PUSH D at SP=0x0001 -/
theorem test_push_d :
  (after { harness with regs := { Regs.zero with d := 0xAA, e := 0xBB }, sp := 0x0001 } [0xD5] [] fun t =>
    t.sp == 0xFFFF && t.pc == 0x0101 && t.readByte 0x0000 == 0xAA && t.readByte 0xFFFF == 0xBB) = true := by decide

/-- V100: PUSH PSW, all flags 1 -/
theorem test_push_psw :
  (after { harness with regs := { Regs.zero with a := 0xFF }, flags := allOnes } [0xF5] [] fun t =>
    t.sp == 0x23FE && t.pc == 0x0101 && t.readByte 0x23FE == 0xD7 && t.readByte 0x23FF == 0xFF) = true := by decide

/-- V101: POP D -/
theorem test_pop_d :
  (after { harness with sp := 0x23FE } [0xD1] [(0x23FE, 0x34), (0x23FF, 0x12)] fun t =>
    t.regs.d == 0x12 && t.regs.e == 0x34 && t.sp == 0x2400 && t.pc == 0x0101) = true := by decide

/-- V102: POP B at SP=0xFFFF -/
theorem test_pop_b :
  (after { harness with sp := 0xFFFF } [0xC1] [(0x0000, 0x56), (0xFFFF, 0x78)] fun t =>
    t.regs.b == 0x56 && t.regs.c == 0x78 && t.sp == 0x0001 && t.pc == 0x0101) = true := by decide

/-- V103: POP PSW, 0xFF -/
theorem test_pop_psw :
  (after { harness with sp := 0x23FE } [0xF1] [(0x23FE, 0xFF), (0x23FF, 0x12)] fun t =>
    t.regs.a == 0x12 && t.sp == 0x2400 && t.pc == 0x0101 && t.flags == flagsOf 1 1 1 1 1) = true := by decide

/-- V104: POP PSW, 0x28 (bits 5 and 3 only) -/
theorem test_pop_psw_again :
  (after { harness with sp := 0x23FE, flags := { Flags.zero with z := true, cy := true } } [0xF1] [(0x23FE, 0x28),
      (0x23FF, 0x00)] fun t =>
    t.sp == 0x2400 && t.pc == 0x0101 && t.flags == flagsOf 0 0 0 0 0) = true := by decide

/-- V105: XTHL -/
theorem test_xthl :
  (after { harness with regs := { Regs.zero with h := 0xAB, l := 0xCD }, sp := 0x23FE } [0xE3] [(0x23FE, 0x34),
      (0x23FF, 0x12)] fun t =>
    t.regs.h == 0x12 && t.regs.l == 0x34 && t.pc == 0x0101 && t.readByte 0x23FE == 0xCD &&
    t.readByte 0x23FF == 0xAB) = true := by decide

/-- V106: SPHL -/
theorem test_sphl :
  (after { harness with regs := { Regs.zero with h := 0x24, l := 0x00 }, sp := 0x0000 } [0xF9] [] fun t =>
    t.sp == 0x2400 && t.pc == 0x0101) = true := by decide

/-- V108: JMP 0x1234 -/
theorem test_jmp :
  (after harness [0xC3, 0x34, 0x12] [] fun t =>
    t.pc == 0x1234) = true := by decide

/-- V109, V110: JNZ 0x0200, taken; JNZ 0x0200, not taken -/
theorem test_jnz :
  (after harness [0xC2, 0x00, 0x02] [] fun t =>
    t.pc == 0x0200) = true ∧
  (after { harness with flags := { Flags.zero with z := true } } [0xC2, 0x00, 0x02] [] fun t =>
    t.pc == 0x0103) = true := by decide

/-- V111, V112: JZ 0x0200, taken; JZ 0x0200, not taken -/
theorem test_jz :
  (after { harness with flags := { Flags.zero with z := true } } [0xCA, 0x00, 0x02] [] fun t =>
    t.pc == 0x0200) = true ∧
  (after harness [0xCA, 0x00, 0x02] [] fun t =>
    t.pc == 0x0103) = true := by decide

/-- V113, V114: JNC 0x0200, taken; JNC 0x0200, not taken -/
theorem test_jnc :
  (after harness [0xD2, 0x00, 0x02] [] fun t =>
    t.pc == 0x0200) = true ∧
  (after { harness with flags := { Flags.zero with cy := true } } [0xD2, 0x00, 0x02] [] fun t =>
    t.pc == 0x0103) = true := by decide

/-- V115, V116: JC 0x0200, taken; JC 0x0200, not taken -/
theorem test_jc :
  (after { harness with flags := { Flags.zero with cy := true } } [0xDA, 0x00, 0x02] [] fun t =>
    t.pc == 0x0200) = true ∧
  (after harness [0xDA, 0x00, 0x02] [] fun t =>
    t.pc == 0x0103) = true := by decide

/-- V117, V118: JPO 0x0200, taken; JPO 0x0200, not taken -/
theorem test_jpo :
  (after harness [0xE2, 0x00, 0x02] [] fun t =>
    t.pc == 0x0200) = true ∧
  (after { harness with flags := { Flags.zero with p := true } } [0xE2, 0x00, 0x02] [] fun t =>
    t.pc == 0x0103) = true := by decide

/-- V119, V120: JPE 0x0200, taken; JPE 0x0200, not taken -/
theorem test_jpe :
  (after { harness with flags := { Flags.zero with p := true } } [0xEA, 0x00, 0x02] [] fun t =>
    t.pc == 0x0200) = true ∧
  (after harness [0xEA, 0x00, 0x02] [] fun t =>
    t.pc == 0x0103) = true := by decide

/-- V121, V122: JP 0x0200, taken; JP 0x0200, not taken -/
theorem test_jp :
  (after harness [0xF2, 0x00, 0x02] [] fun t =>
    t.pc == 0x0200) = true ∧
  (after { harness with flags := { Flags.zero with s := true } } [0xF2, 0x00, 0x02] [] fun t =>
    t.pc == 0x0103) = true := by decide

/-- V123, V124: JM 0x0200, taken; JM 0x0200, not taken -/
theorem test_jm :
  (after { harness with flags := { Flags.zero with s := true } } [0xFA, 0x00, 0x02] [] fun t =>
    t.pc == 0x0200) = true ∧
  (after harness [0xFA, 0x00, 0x02] [] fun t =>
    t.pc == 0x0103) = true := by decide

/-- V126: CALL at pc=0xFFFE (return address wraps) -/
theorem test_call :
  (after { harness with pc := 0xFFFE } [0xCD, 0x00, 0x03] [] fun t =>
    t.sp == 0x23FE && t.pc == 0x0300 && t.readByte 0x23FE == 0x01) = true := by decide

/-- V127, V128: CNZ 0x0300, taken; CNZ 0x0300, not taken -/
theorem test_cnz :
  (after harness [0xC4, 0x00, 0x03] [] fun t =>
    t.sp == 0x23FE && t.pc == 0x0300 && t.readByte 0x23FE == 0x03 && t.readByte 0x23FF == 0x01) = true ∧
  (after { harness with flags := { Flags.zero with z := true } } [0xC4, 0x00, 0x03] [] fun t =>
    t.pc == 0x0103) = true := by decide

/-- V129, V130: CZ 0x0300, taken; CZ 0x0300, not taken -/
theorem test_cz :
  (after { harness with flags := { Flags.zero with z := true } } [0xCC, 0x00, 0x03] [] fun t =>
    t.sp == 0x23FE && t.pc == 0x0300 && t.readByte 0x23FE == 0x03 && t.readByte 0x23FF == 0x01) = true ∧
  (after harness [0xCC, 0x00, 0x03] [] fun t =>
    t.pc == 0x0103) = true := by decide

/-- V131, V132: CNC 0x0300, taken; CNC 0x0300, not taken -/
theorem test_cnc :
  (after harness [0xD4, 0x00, 0x03] [] fun t =>
    t.sp == 0x23FE && t.pc == 0x0300 && t.readByte 0x23FE == 0x03 && t.readByte 0x23FF == 0x01) = true ∧
  (after { harness with flags := { Flags.zero with cy := true } } [0xD4, 0x00, 0x03] [] fun t =>
    t.pc == 0x0103) = true := by decide

/-- V133, V134: CC 0x0300, taken; CC 0x0300, not taken -/
theorem test_cc :
  (after { harness with flags := { Flags.zero with cy := true } } [0xDC, 0x00, 0x03] [] fun t =>
    t.sp == 0x23FE && t.pc == 0x0300 && t.readByte 0x23FE == 0x03 && t.readByte 0x23FF == 0x01) = true ∧
  (after harness [0xDC, 0x00, 0x03] [] fun t =>
    t.pc == 0x0103) = true := by decide

/-- V135, V136: CPO 0x0300, taken; CPO 0x0300, not taken -/
theorem test_cpo :
  (after harness [0xE4, 0x00, 0x03] [] fun t =>
    t.sp == 0x23FE && t.pc == 0x0300 && t.readByte 0x23FE == 0x03 && t.readByte 0x23FF == 0x01) = true ∧
  (after { harness with flags := { Flags.zero with p := true } } [0xE4, 0x00, 0x03] [] fun t =>
    t.pc == 0x0103) = true := by decide

/-- V137, V138: CPE 0x0300, taken; CPE 0x0300, not taken -/
theorem test_cpe :
  (after { harness with flags := { Flags.zero with p := true } } [0xEC, 0x00, 0x03] [] fun t =>
    t.sp == 0x23FE && t.pc == 0x0300 && t.readByte 0x23FE == 0x03 && t.readByte 0x23FF == 0x01) = true ∧
  (after harness [0xEC, 0x00, 0x03] [] fun t =>
    t.pc == 0x0103) = true := by decide

/-- V139, V140: CP 0x0300, taken; CP 0x0300, not taken -/
theorem test_cp :
  (after harness [0xF4, 0x00, 0x03] [] fun t =>
    t.sp == 0x23FE && t.pc == 0x0300 && t.readByte 0x23FE == 0x03 && t.readByte 0x23FF == 0x01) = true ∧
  (after { harness with flags := { Flags.zero with s := true } } [0xF4, 0x00, 0x03] [] fun t =>
    t.pc == 0x0103) = true := by decide

/-- V141, V142: CM 0x0300, taken; CM 0x0300, not taken -/
theorem test_cm :
  (after { harness with flags := { Flags.zero with s := true } } [0xFC, 0x00, 0x03] [] fun t =>
    t.sp == 0x23FE && t.pc == 0x0300 && t.readByte 0x23FE == 0x03 && t.readByte 0x23FF == 0x01) = true ∧
  (after harness [0xFC, 0x00, 0x03] [] fun t =>
    t.pc == 0x0103) = true := by decide

/-- V143: RET -/
theorem test_ret :
  (after { harness with sp := 0x23FE } [0xC9] [(0x23FE, 0x03), (0x23FF, 0x01)] fun t =>
    t.sp == 0x2400 && t.pc == 0x0103) = true := by decide

/-- V144, V145: RNZ, taken; RNZ, not taken -/
theorem test_rnz :
  (after { harness with sp := 0x23FE } [0xC0] [(0x23FE, 0x03), (0x23FF, 0x01)] fun t =>
    t.sp == 0x2400 && t.pc == 0x0103) = true ∧
  (after { harness with sp := 0x23FE, flags := { Flags.zero with z := true } } [0xC0] [(0x23FE, 0x03), (0x23FF,
      0x01)] fun t =>
    t.pc == 0x0101) = true := by decide

/-- V146, V147: RZ, taken; RZ, not taken -/
theorem test_rz :
  (after { harness with sp := 0x23FE, flags := { Flags.zero with z := true } } [0xC8] [(0x23FE, 0x03), (0x23FF,
      0x01)] fun t =>
    t.sp == 0x2400 && t.pc == 0x0103) = true ∧
  (after { harness with sp := 0x23FE } [0xC8] [(0x23FE, 0x03), (0x23FF, 0x01)] fun t =>
    t.pc == 0x0101) = true := by decide

/-- V148, V149: RNC, taken; RNC, not taken -/
theorem test_rnc :
  (after { harness with sp := 0x23FE } [0xD0] [(0x23FE, 0x03), (0x23FF, 0x01)] fun t =>
    t.sp == 0x2400 && t.pc == 0x0103) = true ∧
  (after { harness with sp := 0x23FE, flags := { Flags.zero with cy := true } } [0xD0] [(0x23FE, 0x03), (0x23FF,
      0x01)] fun t =>
    t.pc == 0x0101) = true := by decide

/-- V150, V151: RC, taken; RC, not taken -/
theorem test_rc :
  (after { harness with sp := 0x23FE, flags := { Flags.zero with cy := true } } [0xD8] [(0x23FE, 0x03), (0x23FF,
      0x01)] fun t =>
    t.sp == 0x2400 && t.pc == 0x0103) = true ∧
  (after { harness with sp := 0x23FE } [0xD8] [(0x23FE, 0x03), (0x23FF, 0x01)] fun t =>
    t.pc == 0x0101) = true := by decide

/-- V152, V153: RPO, taken; RPO, not taken -/
theorem test_rpo :
  (after { harness with sp := 0x23FE } [0xE0] [(0x23FE, 0x03), (0x23FF, 0x01)] fun t =>
    t.sp == 0x2400 && t.pc == 0x0103) = true ∧
  (after { harness with sp := 0x23FE, flags := { Flags.zero with p := true } } [0xE0] [(0x23FE, 0x03), (0x23FF,
      0x01)] fun t =>
    t.pc == 0x0101) = true := by decide

/-- V154, V155: RPE, taken; RPE, not taken -/
theorem test_rpe :
  (after { harness with sp := 0x23FE, flags := { Flags.zero with p := true } } [0xE8] [(0x23FE, 0x03), (0x23FF,
      0x01)] fun t =>
    t.sp == 0x2400 && t.pc == 0x0103) = true ∧
  (after { harness with sp := 0x23FE } [0xE8] [(0x23FE, 0x03), (0x23FF, 0x01)] fun t =>
    t.pc == 0x0101) = true := by decide

/-- V156, V157: RP, taken; RP, not taken -/
theorem test_rp :
  (after { harness with sp := 0x23FE } [0xF0] [(0x23FE, 0x03), (0x23FF, 0x01)] fun t =>
    t.sp == 0x2400 && t.pc == 0x0103) = true ∧
  (after { harness with sp := 0x23FE, flags := { Flags.zero with s := true } } [0xF0] [(0x23FE, 0x03), (0x23FF,
      0x01)] fun t =>
    t.pc == 0x0101) = true := by decide

/-- V158, V159: RM, taken; RM, not taken -/
theorem test_rm :
  (after { harness with sp := 0x23FE, flags := { Flags.zero with s := true } } [0xF8] [(0x23FE, 0x03), (0x23FF,
      0x01)] fun t =>
    t.sp == 0x2400 && t.pc == 0x0103) = true ∧
  (after { harness with sp := 0x23FE } [0xF8] [(0x23FE, 0x03), (0x23FF, 0x01)] fun t =>
    t.pc == 0x0101) = true := by decide

/-- V160, V161: RST 0; RST 1 -/
theorem test_rst_0_1 :
  (after { harness with pc := 0x0500 } [0xC7] [] fun t =>
    t.sp == 0x23FE && t.pc == 0x0000 && t.readByte 0x23FE == 0x01 && t.readByte 0x23FF == 0x05) = true ∧
  (after { harness with pc := 0x0500 } [0xCF] [] fun t =>
    t.sp == 0x23FE && t.pc == 0x0008 && t.readByte 0x23FE == 0x01 && t.readByte 0x23FF == 0x05) = true := by decide

/-- V162, V163: RST 2; RST 3 -/
theorem test_rst_2_3 :
  (after { harness with pc := 0x0500 } [0xD7] [] fun t =>
    t.sp == 0x23FE && t.pc == 0x0010 && t.readByte 0x23FE == 0x01 && t.readByte 0x23FF == 0x05) = true ∧
  (after { harness with pc := 0x0500 } [0xDF] [] fun t =>
    t.sp == 0x23FE && t.pc == 0x0018 && t.readByte 0x23FE == 0x01 && t.readByte 0x23FF == 0x05) = true := by decide

/-- V164, V165: RST 4; RST 5 -/
theorem test_rst_4_5 :
  (after { harness with pc := 0x0500 } [0xE7] [] fun t =>
    t.sp == 0x23FE && t.pc == 0x0020 && t.readByte 0x23FE == 0x01 && t.readByte 0x23FF == 0x05) = true ∧
  (after { harness with pc := 0x0500 } [0xEF] [] fun t =>
    t.sp == 0x23FE && t.pc == 0x0028 && t.readByte 0x23FE == 0x01 && t.readByte 0x23FF == 0x05) = true := by decide

/-- V166, V167: RST 6; RST 7 -/
theorem test_rst_6_7 :
  (after { harness with pc := 0x0500 } [0xF7] [] fun t =>
    t.sp == 0x23FE && t.pc == 0x0030 && t.readByte 0x23FE == 0x01 && t.readByte 0x23FF == 0x05) = true ∧
  (after { harness with pc := 0x0500 } [0xFF] [] fun t =>
    t.sp == 0x23FE && t.pc == 0x0038 && t.readByte 0x23FE == 0x01 && t.readByte 0x23FF == 0x05) = true := by decide

/-- V168: PCHL -/
theorem test_pchl :
  (after { harness with regs := { Regs.zero with h := 0x12, l := 0x34 } } [0xE9] [] fun t =>
    t.pc == 0x1234) = true := by decide

/-- V170: NOP at 0xFFFF -/
theorem test_nop :
  (after { harness with pc := 0xFFFF } [0x00] [] fun t =>
    t.pc == 0x0000) = true := by decide

/-- V171: HLT -/
theorem test_hlt :
  (after { harness with pc := 0x0010 } [0x76] [] fun t =>
    t.pc == 0x0011 && t.status == .halted) = true := by decide

/-- V172: IN 0x03 (platform, shift_reg=0xFFFF, offset 7) -/
theorem test_in :
  (after (withBridge harness { quietBridge with shiftReg := 0xFFFF, shiftOffset := 7 }) [0xDB, 0x03] [] fun t =>
    t.regs.a == 0xFF && t.pc == 0x0102) = true := by decide

/-- V174: IN 0x03 (platform, shift_reg=0xABCD, offset 4) -/
theorem test_in_again :
  (after (withBridge harness { quietBridge with shiftReg := 0xABCD, shiftOffset := 4 }) [0xDB, 0x03] [] fun t =>
    t.regs.a == 0xBC && t.pc == 0x0102) = true := by decide

/-- V176: IN 0x01 (platform, in1=0x81) -/
theorem test_in_v176 :
  (after (withBridge harness { quietBridge with in1 := 0x81 }) [0xDB, 0x01] [] fun t =>
    t.regs.a == 0x89 && t.pc == 0x0102) = true := by decide

/-- V178: OUT 0x02 (only low 3 bits) -/
theorem test_out :
  (after { harness with regs := { Regs.zero with a := 0xFD } } [0xD3, 0x02] [] fun t =>
    t.pc == 0x0102 && bridgeOf t (fun b => b.shiftOffset == 5)) = true := by decide

/-- V179: OUT 0x04 (platform, shift_reg=0x1234) -/
theorem test_out_again :
  (after (withBridge { harness with regs := { Regs.zero with a := 0xAB } } { quietBridge with shiftReg := 0x1234 })
      [0xD3, 0x04] [] fun t =>
    t.pc == 0x0102 && bridgeOf t (fun b => b.shiftReg == 0xAB12)) = true := by decide

/-- V180: EI -/
theorem test_ei :
  (after harness [0xFB] [] fun t =>
    t.pc == 0x0101 && t.inte == true) = true := by decide

/-- V182: DI -/
theorem test_di :
  (after { harness with inte := true } [0xF3] [] fun t =>
    t.pc == 0x0101 && t.inte == false) = true := by decide

/-- V183, V184, V185, V186, V187, V188 -/
theorem test_unimplemented_low :
  (after { harness with pc := 0x1234 } [0x08] [] fun t =>
    t.status == .faulted 0x08 0x1234 && t.pc == 0x1234) = true ∧
  (after { harness with pc := 0x1234 } [0x10] [] fun t =>
    t.status == .faulted 0x10 0x1234 && t.pc == 0x1234) = true ∧
  (after { harness with pc := 0x1234 } [0x18] [] fun t =>
    t.status == .faulted 0x18 0x1234 && t.pc == 0x1234) = true ∧
  (after { harness with pc := 0x1234 } [0x20] [] fun t =>
    t.status == .faulted 0x20 0x1234 && t.pc == 0x1234) = true ∧
  (after { harness with pc := 0x1234 } [0x28] [] fun t =>
    t.status == .faulted 0x28 0x1234 && t.pc == 0x1234) = true ∧
  (after { harness with pc := 0x1234 } [0x30] [] fun t =>
    t.status == .faulted 0x30 0x1234 && t.pc == 0x1234) = true := by decide

/-- V189, V190, V191, V192, V193, V194 -/
theorem test_unimplemented_high :
  (after { harness with pc := 0x1234 } [0x38] [] fun t =>
    t.status == .faulted 0x38 0x1234 && t.pc == 0x1234) = true ∧
  (after { harness with pc := 0x1234 } [0xCB] [] fun t =>
    t.status == .faulted 0xCB 0x1234 && t.pc == 0x1234) = true ∧
  (after { harness with pc := 0x1234 } [0xD9] [] fun t =>
    t.status == .faulted 0xD9 0x1234 && t.pc == 0x1234) = true ∧
  (after { harness with pc := 0x1234 } [0xDD] [] fun t =>
    t.status == .faulted 0xDD 0x1234 && t.pc == 0x1234) = true ∧
  (after { harness with pc := 0x1234 } [0xED] [] fun t =>
    t.status == .faulted 0xED 0x1234 && t.pc == 0x1234) = true ∧
  (after { harness with pc := 0x1234 } [0xFD] [] fun t =>
    t.status == .faulted 0xFD 0x1234 && t.pc == 0x1234) = true := by decide

/-! ### IN and OUT with a free value, interrupts, the platform, and the end of a run -/

/-- 60 R446, 20 R65: IN from a port with no device answers the free byte of the environment as it is, and spends a
draw. -/
theorem test_in_port_without_device :
    step (withCode harness [0xDB, 0x09]) =
      .next { withCode harness [0xDB, 0x09] with
        regs := { Regs.zero with a := Config.ioIn harness.env 0x09 }
        pc := 0x0102
        env := { harness.env with draws := 1 } } := rfl

/-- 00 R11: with no platform attached every IN is free, that from port 1 too. -/
theorem test_in_port_core_alone :
    nextIs (step (withCode { harness with env := { harness.env with bridge := none } } [0xDB, 0x01])) fun t =>
      t.env.draws == 1 && t.pc == 0x0102 := by decide

/-- 20 R65: OUT delivers the pair (port, A). -/
theorem test_out_port_delivers :
    nextIs (step (withCode { harness with regs := { Regs.zero with a := 0x5A } } [0xD3, 0x06])) fun t =>
      t.env.outputs == [(0x06, 0x5A)] && t.env.bridge == some quietBridge := by decide

/-- 00 R11: an OUT changes the state of the environment that answers the next free IN. -/
theorem test_free_in_sees_outputs :
    nextIs (step (withCode { harness with regs := { Regs.zero with a := 0x5A } } [0xD3, 0x06])) fun t =>
      t.env != harness.env := by decide

/-- 60 R445: a byte of zeros triggers no sound, whatever the sound map is. -/
theorem test_zero_is_silent (e : Env) : e.playedSounds 0x05 0x00 = [] := by
  have h : triggeredSounds 0x05 0x00 = [] := by simp [triggeredSounds]
  unfold Env.playedSounds
  rw [h]
  rfl

/-- 60 R444: a byte of ones plays every sound of the port, each once. -/
theorem test_ones_play_all (e : Env) :
    (e.playedSounds 0x05 0xFF).Perm [.fleet1, .fleet2, .fleet3, .fleet4, .ufoHit] := by
  have h : triggeredSounds 0x05 0xFF = (soundMap 0x05).map Prod.snd := by
    unfold triggeredSounds
    rw [List.filter_eq_self.2]
    intro x _
    have : ∀ k : BitVec 3, (0xFF : Byte).getLsbD k.toNat = true := by decide
    exact this x.1
  have p := (e.playedSounds_spec 0x05 0xFF).1
  rw [h, (soundMap_spec 0x05).1] at p
  exact p

/-- 95 P4, event 4: deliver(1) with INTE = 1 pushes PC 0x0005, goes to 0x0008 and clears INTE. -/
theorem test_delivery :
    nextIs (step { presenting [.request 1] with pc := 0x0005, inte := true }) fun t =>
      t.pc == 0x0008 && t.sp == 0x23FE && t.inte == false && t.readByte 0x23FE == 0x05 &&
      t.readByte 0x23FF == 0x00 && t.env.events == [] := by decide

/-- 95 P4, event 5, and E7: with INTE = 0 the request is dropped. -/
theorem test_delivery_dropped :
    nextIs (step { presenting [.request 2] with pc := 0x0008 }) fun t =>
      t == { harness with pc := 0x0008 } := by decide

/-- 60 R436: a due iteration samples the latches and the clock, presents vector 2 and then the renderer's read, and moves
the deadline by 8 milliseconds. -/
theorem test_iteration_due :
    nextIs (step (harness.setEnv { harness.env with
      events := [.iterate { in1 := 0x81, in2 := 0x03, elapsed := 9, quit := true }]
      scheduler := { nextVector := .verticalBlank, deadline := 16, clock := 7 } })) fun t =>
      t.env.scheduler == { nextVector := .midScreen, deadline := 24, clock := 16 } &&
      t.env.events.take 3 == [.request 2, .render, .execute] && t.env.events.length == 103 &&
      bridgeOf t fun b => b.in1 == 0x81 && b.in2 == 0x03 := by decide

/-- 60 R436: an iteration before the deadline presents the batch alone. -/
theorem test_iteration_not_due :
    nextIs (step (harness.setEnv { harness.env with
      events := [.iterate { in1 := 0x00, in2 := 0x00, elapsed := 8, quit := false }]
      scheduler := { nextVector := .verticalBlank, deadline := 16, clock := 7 } })) fun t =>
      t.env.scheduler == { nextVector := .verticalBlank, deadline := 16, clock := 15 } &&
      t.env.events == List.replicate 100 .execute := by decide

/-- 00 R11 `irq`: at a boundary of a schedule without end the request decided there is delivered, and the schedule goes
on. -/
theorem test_request_of_schedule (h : Config.irq (scheduled (.requests 5)).env = some 3) :
    step { scheduled (.requests 5) with inte := true } =
      .next (({ scheduled (.requests 6) with inte := true } : State).deliver 3) := by
  have : ({ scheduled (.requests 5) with inte := true } : State).env.presents = .request 3 := by
    show Event.ofRequest (Config.irq (scheduled (.requests 5)).env) = _
    rw [h]
    rfl
  exact step_request rfl this

/-- 60 R436: when a batch is over the loop begins its next iteration. -/
theorem test_loop_goes_on :
    nextIs (step (scheduled (.loop 5))) fun t =>
      t.env.later == .loop 6 && t.pc == harness.pc := by
  rfl

/-- 60 R447: a write of in1 is seen by IN from port 1, with bit 3 set. -/
theorem test_latch_write :
    nextIs (step (presenting [.writeIn1 0x81])) fun t =>
      bridgeOf t fun b => b.in1 == 0x81 && b.input 0x01 == some 0x89 := by decide

/-- 95 P5 and 60 R402: no step leads on from Faulted or from Halted. -/
theorem test_terminal :
    step { harness with status := .faulted 0xED 0x0002 } = .fault (.unimplementedOpcode 0xED 0x0002) ∧
    step { harness with status := .halted } = .fault .halted ∧
    step (presenting [.quit]) = .fault .quit := ⟨rfl, rfl, rfl⟩

/-- 20 R78: the next fetch sees a store into the next instruction: MOV M,A writes HLT over the byte at PC + 1. -/
theorem test_store_seen_by_next_fetch :
    nextIs (step (withCode
      { harness with regs := { Regs.zero with a := 0x76, h := 0x01, l := 0x01 } } [0x77, 0x00])) fun t =>
      t.fetch == .hlt := by decide

/-- 20 R63: a 16-bit access at 0xFFFF takes its second byte from 0x0000. -/
theorem test_word_access_wraps :
    (harness.writeWord 0xFFFF 0x1234).readByte 0x0000 = 0x12 ∧
    (harness.writeWord 0xFFFF 0x1234).readByte 0xFFFF = 0x34 := by decide

/-- 20 R60: writing what an unlisted address reads as removes the entry, so equal memories are equal lists. -/
theorem test_memory_canonical :
    (((Memory.write [] 0x2000 0x5A).write 0x1000 0x01).write 0x2000 0x00) = [(0x1000, 0x01)] := by decide

/-- 70 R501, R502: a short image starts the core, one byte too many does not. -/
theorem test_boot_image :
    (State.boot .named [0xC3, 0x00, 0x18]).map (fun s => (s.readByte 0x0000, s.readByte 0x0002, s.readByte 0x0003)) =
      some (0xC3, 0x18, 0x00) ∧
    State.boot .named (List.replicate 65537 0x00) = none := by
  refine ⟨by decide, ?_⟩
  unfold State.boot
  rw [List.length_replicate]
  rfl

/-- The placing of a table word for the next step: LXI SP,0x2400 as bits 23..0. -/
theorem test_with_fetch_word :
    decodeTableWord 24 0x240031 = some (.lxiSP 0x2400) ∧
    nextIs (step (State.reset.withFetchWord 24 0x240031)) fun t => t.sp == 0x2400 && t.pc == 0x0003 := by decide

/-! ### Witnesses: the hypotheses of each statement can be met -/

/-- `EncodeInvertsDecode`: bytes that decode, with bytes left over. -/
theorem witness_encode_inverts_decode :
    decode [0x21, 0x34, 0x12, 0x76] = .ok (.lxiH 0x1234, [0x76]) ∧ decode [0xED] = .ok (.unimplementedED, []) :=
  ⟨rfl, rfl⟩

/-- `OpcodeAloneFixesTheLength`: an instruction of each length, by its opcode. -/
theorem witness_opcode_length :
    (encode (.mviM 0xED)).head? = some 0x36 ∧ (encode (.cm 0x1234)).head? = some 0xFC ∧
    (encode .rst7).head? = some 0xFF := by decide

/-- `TwelveUnimplementedBytesFault`: a byte on each side of the first clause. -/
theorem witness_unimplemented :
    decode (0xFD :: 0x00 :: 0x00 :: []) = .ok (.unimplementedFD, [0x00, 0x00]) ∧
    decode (0xFE :: 0x00 :: 0x00 :: []) = .ok (.cpi 0x00, [0x00]) := ⟨rfl, rfl⟩

/-- `StepRunsDecodedInstruction`: a running core whose fetched bytes, wrapping past 0xFFFF, decode; nothing is listed and
nothing scheduled but Execute steps. -/
theorem witness_step_runs_decoded :
    (withCode { harness with pc := 0xFFFF } [0x06, 0x77]).status = .running ∧
    decode (withCode { harness with pc := 0xFFFF } [0x06, 0x77]).fetchBytes = .ok (.mviB 0x77, []) ∧
    (withCode { harness with pc := 0xFFFF } [0x06, 0x77]).env.events = [] ∧
    (withCode { harness with pc := 0xFFFF } [0x06, 0x77]).env.later = .execute := ⟨rfl, rfl, rfl, rfl⟩

/-- `StepRunsDecodedInstruction`, the first clause: an Execute event is presented. -/
theorem witness_step_runs_decoded_event :
    (withCode (presenting [.execute]) [0x76]).status = .running ∧
    decode (withCode (presenting [.execute]) [0x76]).fetchBytes = .ok (.hlt, []) ∧
    (withCode (presenting [.execute]) [0x76]).env.presents = .execute := ⟨rfl, rfl, rfl⟩

/-- `StepRunsInstructionPlacedInMemory`: a three-byte instruction across the top of memory. -/
theorem witness_step_runs_placed :
    (withCode { harness with pc := 0xFFFE } [0xCD, 0x00, 0x03]).AtBoundary ∧
    ∀ (k : Nat) (h : k < (encode (.call 0x0300)).length),
      (withCode { harness with pc := 0xFFFE } [0xCD, 0x00, 0x03]).readByte
        ((withCode { harness with pc := 0xFFFE } [0xCD, 0x00, 0x03]).pc + BitVec.ofNat 16 k) =
          (encode (.call 0x0300))[k] := by
  refine ⟨⟨rfl, rfl⟩, ?_⟩
  decide

/-- `OnlyHltAndUnimplementedStopTheCore`: a running core and no quit, for each of the three outcomes, and at an
unimplemented byte with an Execute event presented. -/
theorem witness_only_hlt_and_unimplemented :
    harness.status = .running ∧ harness.env.presents ≠ .quit ∧
    nextIs (step harness) (fun t => t.status == .running) ∧
    nextIs (step (withCode harness [0x76])) (fun t => t.status == .halted) ∧
    (withCode (presenting [.execute]) [0xFD]).env.presents = .execute ∧
    (withCode (presenting [.execute]) [0xFD]).readByte 0x0100 ∈ unimplementedBytes := by decide

/-- `TerminalStatusesHaveNoStep`: a core in each terminal status. -/
theorem witness_terminal :
    nextIs (exec .hlt harness) (fun t => t.status == .halted) ∧
    nextIs (exec .unimplementedED harness) fun t => t.status == .faulted 0xED 0x0100 := by decide

/-- `StepKeepsInvariant`: a state with the invariant that steps, to a fault on an unimplemented byte. -/
theorem witness_step_keeps_invariant :
    (withCode harness [0xED]).Inv ∧
    step (withCode harness [0xED]) = .next { withCode harness [0xED] with status := .faulted 0xED 0x0100 } := by
  refine ⟨⟨rfl, ?_, ?_⟩, rfl⟩
  · intro m h
    simp [withCode, harness, withBridge, State.setEnv, State.setMem, State.reset, Env.reset] at h
  · intro op pc h
    simp [withCode, harness, withBridge, State.setEnv, State.setMem, State.reset] at h

/-- `InteChangesOnlyByEiDiAndDelivery`: each of the three changes of INTE happens. -/
theorem witness_inte :
    nextIs (step (withCode harness [0xFB])) (fun t => t.inte != harness.inte) ∧
    nextIs (step (withCode { harness with inte := true } [0xF3])) (fun t => t.inte != true) ∧
    nextIs (step { presenting [.request 7] with inte := true }) (fun t => t.inte != true) ∧
    (Instr.popPSW ≠ .ei ∧ Instr.popPSW ≠ .di) ∧
    nextIs (exec .popPSW { harness with inte := true }) fun t => t.inte := by decide

/-- `FlagsWrittenOnlyByListedInstructions`: INR completes and CY is not listed for it; DAD lists CY alone. -/
theorem witness_flags_written :
    nextIs (exec .inrB { harness with flags := allOnes }) (fun t => t.flag .cy) ∧
    Flag.cy ∉ flagsWritten .inrB ∧ Flag.z ∉ flagsWritten .dadB ∧ Flag.ac ∉ flagsWritten .nop := by decide

/-- `ImageLoadedOverZeroMemory` and `StartOfARun`: the longest image starts the core, one byte more is too long. -/
theorem witness_boot :
    (∃ s, State.boot .named (List.replicate 65536 0xFF) = some s) ∧
    (List.replicate 65537 (0xFF : Byte)).length > 65536 ∧ (List.replicate 65536 (0xFF : Byte)).length ≤ 65536 := by
  refine ⟨⟨_, if_pos ?_⟩, ?_, ?_⟩ <;> rw [List.length_replicate] <;> decide

/-- `FirstStepExecutesAtZero`: a start with a request presented, and one with an Execute step presented and an image that
begins with an instruction. -/
theorem witness_first_step :
    State.boot { InitParams.named with events := [.request 1] } [0x31, 0x00, 0x24] =
      some (.initial { InitParams.named with events := [.request 1] } [0x31, 0x00, 0x24]) ∧
    (State.initial { InitParams.named with events := [.request 1] } [0x31, 0x00, 0x24]).env.presents = .request 1 ∧
    State.boot .named [0x31, 0x00, 0x24, 0xAF] = some (.initial .named [0x31, 0x00, 0x24, 0xAF]) ∧
    (State.initial .named [0x31, 0x00, 0x24, 0xAF]).env.presents = .execute ∧
    ([0x31, 0x00, 0x24, 0xAF] : List Byte) = encode (.lxiSP 0x2400) ++ [0xAF] := ⟨rfl, rfl, rfl, rfl, rfl⟩

/-- `WordAccessesAreTwoByteAccesses`: at the top of memory an address is neither of the two stored ones. -/
theorem witness_word_access :
    (0x0001 : Word) ≠ 0xFFFF ∧ (0x0001 : Word) ≠ 0xFFFF + 1 ∧ (0x0000 : Word) = 0xFFFF + 1 := by decide

/-- `MviLoadsImmediate` and `CallsPushReturnAddress`: a core about to execute MVI A, MVI M, CALL. -/
theorem witness_fetched_operands :
    (withCode { harness with pc := 0xFFFF } [0x3E, 0x77]).AtBoundary ∧
    (withCode { harness with pc := 0xFFFF } [0x3E, 0x77]).readByte 0xFFFF = 0b00#2 ++ Reg.code .a ++ 0b110#3 ∧
    (withCode harness [0x36, 0x00]).AtBoundary ∧ (withCode harness [0x36, 0x00]).readByte 0x0100 = 0x36 ∧
    (withCode harness [0xCD, 0x00, 0x03]).AtBoundary ∧
    (withCode harness [0xCD, 0x00, 0x03]).readByte 0x0100 = 0xCD :=
  ⟨⟨rfl, rfl⟩, rfl, ⟨rfl, rfl⟩, rfl, ⟨rfl, rfl⟩, rfl⟩

/-- `LoadAndStoreA`: LDAX and STAX, the last row of each table. -/
theorem witness_ldax_stax (s : State) :
    (Instr.ldaxD, (0x1A : Byte), s.regs.d ++ s.regs.e) ∈
      [(Instr.ldaxB, (0x0A : Byte), s.regs.b ++ s.regs.c), (.ldaxD, 0x1A, s.regs.d ++ s.regs.e)] ∧
    (Instr.staxD, (0x12 : Byte), s.regs.d ++ s.regs.e) ∈
      [(Instr.staxB, (0x02 : Byte), s.regs.b ++ s.regs.c), (.staxD, 0x12, s.regs.d ++ s.regs.e)] := by simp

/-- `RotatesMoveBits`: the highest bit the clauses speak of. -/
theorem witness_rotates : 6 < 7 ∧ nextIs (exec .rlc { harness with regs := { Regs.zero with a := 0x40 } }) fun t =>
    t.regs.a.getLsbD 7 := by decide

/-- `DaaGivesBcdSum`: 99 + 99 with an incoming carry, the largest sum. -/
theorem witness_daa_bcd :
    99 < 100 ∧ ({ harness with regs := { Regs.zero with a := 0x99 }, flags := allOnes } : State).regs.a = bcd 99 ∧
    ({ harness with regs := { Regs.zero with a := 0x99 }, flags := allOnes } : State).src (.imm 0x99) = bcd 99 := by
  decide

/-- `PushAndPopPairs`, `PushThenPopRestores` and `RstCallsItsVector`: the last rows of their tables. -/
theorem witness_stack_tables :
    (Instr.pushH, (0xE5 : Byte), Reg.h, Reg.l) ∈
      [(Instr.pushB, (0xC5 : Byte), Reg.b, Reg.c), (.pushD, 0xD5, .d, .e), (.pushH, 0xE5, .h, .l)] ∧
    (Instr.popH, (0xE1 : Byte), Reg.h, Reg.l) ∈
      [(Instr.popB, (0xC1 : Byte), Reg.b, Reg.c), (.popD, 0xD1, .d, .e), (.popH, 0xE1, .h, .l)] ∧
    (Instr.pushPSW, Instr.popPSW) ∈
      [(Instr.pushB, Instr.popB), (.pushD, .popD), (.pushH, .popH), (.pushPSW, .popPSW)] ∧
    (Instr.rst7, (7 : BitVec 3)) ∈
      [(Instr.rst0, (0 : BitVec 3)), (.rst1, 1), (.rst2, 2), (.rst3, 3), (.rst4, 4), (.rst5, 5), (.rst6, 6),
        (.rst7, 7)] := by decide

/-- `ConditionalJumps`, `CallsPushReturnAddress` and `ReturnsPopReturnAddress`: with every flag 0 a condition with
polarity 0 holds and one with polarity 1 does not, and the other way round with every flag 1. -/
theorem witness_conditions :
    ∀ f ∈ [Flag.z, .s, .p, .cy],
      harness.flag f = false ∧ ({ harness with flags := allOnes } : State).flag f = true := by decide

/-- `HltAndEi`: EI completes in a running core to which a request is then presented. -/
theorem witness_ei_then_request :
    exec .ei (presenting [.request 7]) = .next { presenting [.request 7] with inte := true, pc := 0x0101 } ∧
    (presenting [.request 7]).status = .running ∧ (presenting [.request 7]).env.presents = .request 7 :=
  ⟨rfl, rfl, rfl⟩

/-- `NopAndDi`: a zero byte at the top of memory, and DI with a request then presented. -/
theorem witness_nop_di :
    ({ harness with pc := 0xFFFF } : State).AtBoundary ∧ ({ harness with pc := 0xFFFF } : State).readByte 0xFFFF = 0x00 ∧
    exec .di (presenting [.request 7]) = .next { presenting [.request 7] with pc := 0x0101 } ∧
    (presenting [.request 7]).status = .running ∧ (presenting [.request 7]).env.presents = .request 7 :=
  ⟨⟨rfl, rfl⟩, rfl, rfl, rfl, rfl⟩

/-- `InReadsThePort` and `OutWritesThePort`: a core on the platform, the core alone, and a port with no device. -/
theorem witness_ports :
    harness.env.bridge = some quietBridge ∧
    ({ harness.env with bridge := none } : Env).bridge = none ∧
    ((0x00 : Byte) ≠ 1 ∧ (0x00 : Byte) ≠ 2 ∧ (0x00 : Byte) ≠ 3) ∧
    ((0x04 : Byte) ≠ 1 ∧ (0x04 : Byte) ≠ 2 ∧ (0x04 : Byte) ≠ 3) := by
  decide

/-- `DeliveryEntersTheVector` and `RequestsWithoutInteAreDropped`, the second clause: a running core with INTE 1, two
requests presented. -/
theorem witness_delivery :
    ({ presenting [.request 1, .request 2] with inte := true } : State).status = .running ∧
    ({ presenting [.request 1, .request 2] with inte := true } : State).env.presents = .request 1 ∧
    ({ presenting [.request 1, .request 2] with inte := true } : State).presented.env.presents = .request 2 ∧
    ({ presenting [.request 1, .request 2] with inte := true } : State).inte = true := ⟨rfl, rfl, rfl, rfl⟩

/-- `RequestsWithoutInteAreDropped`, the first clause: INTE 0. -/
theorem witness_dropped :
    (presenting [.request 1]).status = .running ∧ (presenting [.request 1]).env.presents = .request 1 ∧
    (presenting [.request 1]).inte = false := ⟨rfl, rfl, rfl⟩

/-- `HostActsChangeOnlyTheEnvironment`: each act presented to a running core on the platform. -/
theorem witness_host_acts :
    ∀ e ∈ [Event.writeIn1 0x81, .writeIn2 0x03, .render, .quit,
      .iterate { in1 := 0x81, in2 := 0x03, elapsed := 0, quit := true }],
      (presenting [e]).status = .running ∧ (presenting [e]).env.presents = e ∧
      (presenting [e]).env.bridge = some quietBridge := by decide

/-- `HostActsChangeOnlyTheEnvironment`, the last clause: the deadline reached, at equality, and not reached. -/
theorem witness_deadline :
    (({ nextVector := .midScreen, deadline := 8, clock := 8 } : Scheduler).deadline ≤ 8) ∧
    ¬ ({ nextVector := .midScreen, deadline := 9, clock := 8 } : Scheduler).deadline ≤ 8 := by decide

/-- `WhatTheEnvironmentPresents`: an event listed before a schedule, and each schedule with nothing listed. -/
theorem witness_presents :
    (presenting [.request 1]).env.events = [.request 1] ∧
    (harness.env.events = [] ∧ harness.env.later = .execute) ∧
    ((scheduled (.requests 0)).env.events = [] ∧ (scheduled (.requests 0)).env.later = .requests 0) ∧
    ((scheduled (.loop 0)).env.events = [] ∧ (scheduled (.loop 0)).env.later = .loop 0) := by decide

/-- `OutWritesThePort`: a port without sounds, next to those with them. -/
theorem witness_silent_port : (0x04 : Byte) ≠ 3 ∧ (0x04 : Byte) ≠ 5 ∧ soundMap 0x04 = [] := ⟨by decide, by decide, rfl⟩

end Sys2Proof.Tests
end

section
/-! PROOFS. INTE (spec 10 R38): the core of it is that setting the latch before an instruction other than EI and DI is
the same as setting it after. -/

namespace Sys2Proof.Machine

/-! ### The operations that branch commute with setting INTE -/

@[simp] theorem State.setInte_self (s : State) : s.setInte s.inte = s := rfl

@[simp] theorem State.cond_setInte (s : State) (b : Bool) (test : Cond) : (s.setInte b).cond test = s.cond test := by
  cases test <;> rfl

theorem State.jumpIf_setInte (s : State) (b : Bool) (test : Cond) (target : Word) :
    (s.setInte b).jumpIf test target = (s.jumpIf test target).setInte b := by
  unfold State.jumpIf
  rw [State.cond_setInte]
  split <;> rfl

theorem State.callIf_setInte (s : State) (b : Bool) (test : Cond) (target : Word) :
    (s.setInte b).callIf test target = (s.callIf test target).setInte b := by
  unfold State.callIf
  rw [State.cond_setInte]
  split <;> rfl

theorem State.returnIf_setInte (s : State) (b : Bool) (test : Cond) :
    (s.setInte b).returnIf test = (s.returnIf test).setInte b := by
  unfold State.returnIf
  rw [State.cond_setInte]
  split <;> rfl

theorem State.ioReadState_setInte (s : State) (b : Bool) (port : Byte) :
    (s.setInte b).ioReadState port = (s.ioReadState port).setInte b := by
  unfold State.ioReadState
  rw [State.setInte_env]
  split <;> rfl

theorem State.ioWrite_setInte (s : State) (b : Bool) (port v : Byte) :
    (s.setInte b).ioWrite port v = (s.ioWrite port v).setInte b := by
  unfold State.ioWrite
  rw [State.setInte_env]
  cases s.env.bridge <;> rfl

/-! ### Instructions and INTE -/

theorem exec_ei (s : State) : exec .ei s = .next ((s.setInte true).advance 1) := rfl

theorem exec_di (s : State) : exec .di s = .next ((s.setInte false).advance 1) := rfl

/-- An instruction other than EI and DI answers a next state, and setting INTE before it is setting INTE after it. Where
no operation branches, both sides are the same record update. -/
theorem exec_setInte {i : Instr} (hei : i ≠ .ei) (hdi : i ≠ .di) (s : State) (b : Bool) :
    ∃ t, exec i s = .next t ∧ exec i (s.setInte b) = .next (t.setInte b) := by
  cases i
  case ei => exact absurd rfl hei
  case di => exact absurd rfl hdi
  case jnz | jz | jnc | jc | jpo | jpe | jp | jm =>
    exact ⟨_, rfl, congrArg _ (s.jumpIf_setInte b _ _)⟩
  case cnz | cz | cnc | cc | cpo | cpe | cp | cm =>
    exact ⟨_, rfl, congrArg _ (s.callIf_setInte b _ _)⟩
  case rnz | rz | rnc | rc | rpo | rpe | rp | rm =>
    exact ⟨_, rfl, congrArg _ (s.returnIf_setInte b _)⟩
  case inPort port =>
    exact ⟨_, rfl, congrArg (fun u : State => Host.Outcome.next ((u.setReg .a (s.ioReadValue port)).advance 2))
      (s.ioReadState_setInte b port)⟩
  case outPort port =>
    exact ⟨_, rfl, congrArg (fun u : State => Host.Outcome.next (u.advance 2)) (s.ioWrite_setInte b port s.regs.a)⟩
  all_goals exact ⟨_, rfl, rfl⟩

/-- An instruction other than EI and DI keeps INTE. -/
theorem exec_inte {i : Instr} (hei : i ≠ .ei) (hdi : i ≠ .di) {s t : State} (h : exec i s = .next t) :
    t.inte = s.inte := by
  obtain ⟨u, hu, hset⟩ := exec_setInte hei hdi s s.inte
  rw [State.setInte_self, h] at hset
  injection hset with hset
  rw [hset, State.setInte_inte]

/-- A Deliver step leaves INTE 0: it enters the handler with INTE cleared, or INTE was 0 and the request is dropped. -/
@[simp] theorem State.deliver_inte (s : State) (v : BitVec 3) : (s.deliver v).inte = false := by
  obtain ⟨hentered, hdropped⟩ := s.deliver_spec v
  cases hi : s.inte
  · rw [hdropped hi, hi]
  · rw [hentered hi]

/-- What a step that changes INTE was (R38). -/
theorem step_inte_changed {s t : State} (h : step s = .next t) (hne : t.inte ≠ s.inte) :
    (s.fetch = .ei ∧ t.inte = true) ∨ (s.fetch = .di ∧ t.inte = false) ∨
    ∃ v, s.env.presents = .request v ∧ t.inte = false := by
  obtain ⟨-, ⟨-, he⟩ | ⟨v, hv, rfl⟩ | ⟨ht, -⟩⟩ := step_cases h
  · by_cases hei : s.fetch = .ei
    · rw [hei, exec_ei] at he
      injection he with he
      exact .inl ⟨hei, by simp [← he]⟩
    by_cases hdi : s.fetch = .di
    · rw [hdi, exec_di] at he
      injection he with he
      exact .inr (.inl ⟨hdi, by simp [← he]⟩)
    exact absurd (exec_inte hei hdi he) hne
  · exact .inr (.inr ⟨v, hv, State.deliver_inte _ v⟩)
  · exact absurd (congrArg State.inte ht) hne

/-- Settles O12: all of it follows from `exec_setInte` and the cases of a step. -/
theorem inteChangesOnlyByEiDiAndDelivery : Obligations.InteChangesOnlyByEiDiAndDelivery := by
  unfold Obligations.InteChangesOnlyByEiDiAndDelivery
  refine ⟨fun s t => step_inte_changed, fun s => ⟨_, exec_ei s, rfl⟩, fun s => ⟨_, exec_di s, rfl⟩, ?_⟩
  intro i s t b hei hdi h
  obtain ⟨u, hu, hset⟩ := exec_setInte hei hdi s b
  rw [h] at hu
  injection hu with hu
  subst hu
  exact hset

end Sys2Proof.Machine
end

section
/-! PROOFS. The opcode and the length (spec 30 R90 to R93): an instruction's bytes are its opcode and the operands that
opcode fixes, and the entry of the opcode map at an opcode is an instruction of that opcode. -/

namespace Sys2Proof

/-! ### The length an opcode fixes -/

/-- Formats F2 and F3 share no opcode. -/
theorem not_mem_formatF3_of_mem_formatF2 : ∀ op ∈ formatF2, op ∉ formatF3 := by decide

/-- What the opcode's format says of the length, case by case. -/
theorem opLength_spec (op : Byte) :
    (op ∈ formatF2 ∧ opLength op = 2) ∨ (op ∉ formatF2 ∧ op ∈ formatF3 ∧ opLength op = 3) ∨
    (op ∉ formatF2 ∧ op ∉ formatF3 ∧ opLength op = 1) := by
  by_cases h2 : op ∈ formatF2
  · exact .inl ⟨h2, if_pos (List.contains_iff_mem.mpr h2)⟩
  have hlength : opLength op = if formatF3.contains op then 3 else 1 := if_neg (mt List.contains_iff_mem.mp h2)
  by_cases h3 : op ∈ formatF3
  · exact .inr (.inl ⟨h2, h3, hlength.trans (if_pos (List.contains_iff_mem.mpr h3))⟩)
  · exact .inr (.inr ⟨h2, h3, hlength.trans (if_neg (mt List.contains_iff_mem.mp h3))⟩)

theorem opLength_eq_two_iff {op : Byte} : opLength op = 2 ↔ op ∈ formatF2 := by
  obtain ⟨h2, h⟩ | ⟨h2, -, h⟩ | ⟨h2, -, h⟩ := opLength_spec op
  · exact iff_of_true h h2
  · exact iff_of_false (by omega) h2
  · exact iff_of_false (by omega) h2

theorem opLength_eq_three_iff {op : Byte} : opLength op = 3 ↔ op ∈ formatF3 := by
  obtain ⟨h2, h⟩ | ⟨-, h3, h⟩ | ⟨-, h3, h⟩ := opLength_spec op
  · exact iff_of_false (by omega) (not_mem_formatF3_of_mem_formatF2 op h2)
  · exact iff_of_true h h3
  · exact iff_of_false (by omega) h3

theorem opLength_cases (op : Byte) : opLength op = 1 ∨ opLength op = 2 ∨ opLength op = 3 := by
  obtain ⟨-, h⟩ | ⟨-, -, h⟩ | ⟨-, -, h⟩ := opLength_spec op
  · exact .inr (.inl h)
  · exact .inr (.inr h)
  · exact .inl h

/-! ### The bytes of an instruction -/

/-- The lemmas `OpcodeLength.*`, for every instruction at once. -/
theorem encode_opcodeLength (i : Instr) : Laws.OpcodeLength.Statement i := by
  cases i <;> exact ⟨_, _, rfl, rfl⟩

theorem encode_length_eq_opLength {i : Instr} {op : Byte} (h : (encode i).head? = some op) :
    (encode i).length = opLength op := by
  obtain ⟨op', operands, hbytes, hlength⟩ := encode_opcodeLength i
  rw [hbytes] at h ⊢
  obtain rfl : op' = op := Option.some.inj h
  exact hlength

theorem encode_length_cases (i : Instr) :
    (encode i).length = 1 ∨ (encode i).length = 2 ∨ (encode i).length = 3 := by
  obtain ⟨op, operands, hbytes, hlength⟩ := encode_opcodeLength i
  rw [hbytes, List.length_cons, hlength]
  exact opLength_cases op

/-! ### The opcode map -/

/-- The instruction at row `r`, column `c` of the opcode map has opcode `16 * r + c` (R104). -/
theorem opcodeMap_opcode (d8 : Byte) (d16 : Word) : ∀ r c : Fin 16,
    (encode (opcodeMap d8 d16)[r][c]).head? = some (BitVec.ofNat 8 (16 * r + c)) :=
  of_decide_eq_true rfl

theorem encode_decodeOpcode_head (op d8 : Byte) (d16 : Word) :
    (encode (decodeOpcode op d8 d16)).head? = some op := by
  have hrow : op.toNat / 16 < 16 := by omega
  have hcol : op.toNat % 16 < 16 := by omega
  calc (encode (decodeOpcode op d8 d16)).head?
    _ = some (BitVec.ofNat 8 (16 * (op.toNat / 16) + op.toNat % 16)) :=
      opcodeMap_opcode d8 d16 ⟨_, hrow⟩ ⟨_, hcol⟩
    _ = some op := by rw [Nat.div_add_mod, BitVec.ofNat_toNat, BitVec.setWidth_eq]

theorem decode_of_two_operands (op b1 b2 : Byte) (rest : List Byte) :
    decode (op :: b1 :: b2 :: rest) =
      .ok (decodeOpcode op b1 (Machine.wordOf b2 b1), (op :: b1 :: b2 :: rest).drop (opLength op)) := by
  have henough : ¬ (b1 :: b2 :: rest).length + 1 < opLength op := by
    have := opLength_cases op
    simp only [List.length_cons]
    omega
  rw [decode, if_neg henough]
  obtain h | h | h := opLength_cases op <;> rw [h] <;> rfl

/-- Settles O3: `encode_length_eq_opLength` carries lengths to opcodes, and the opcode map has each opcode at its place. -/
theorem opcodeAloneFixesTheLength : Obligations.OpcodeAloneFixesTheLength := by
  unfold Obligations.OpcodeAloneFixesTheLength
  refine ⟨fun op b1 b2 rest => ⟨decodeOpcode op b1 (Machine.wordOf b2 b1), ?_⟩, encode_length_cases, fun i op hop => ?_⟩
  · rw [decode_of_two_operands, encode_length_eq_opLength (encode_decodeOpcode_head op b1 _)]
  · rw [encode_length_eq_opLength hop, opLength_eq_two_iff, opLength_eq_three_iff]
    have hF2 : formatF2.Perm ([0x06, 0x0E, 0x16, 0x1E, 0x26, 0x2E, 0x3E, 0x36] ++
      [0xC6, 0xCE, 0xD6, 0xDE, 0xE6, 0xEE, 0xF6, 0xFE] ++ [0xDB, 0xD3]) := by decide
    exact ⟨hF2.mem_iff, Iff.rfl⟩

end Sys2Proof
end

section
/-! PROOFS. Frames: what each operation on the state leaves unchanged, and how frames combine. -/

namespace Sys2Proof.Machine

/-! ### Combining frames -/

theorem Frame.mono {s t : State} {w w' : List Place} {m m' : List Word} (h : Frame s t w m) (hw : w ⊆ w')
    (hm : m ⊆ m') : Frame s t w' m' := by
  obtain ⟨hplace, hbyte⟩ := h
  exact ⟨fun p hp => hplace p (mt (hw ·) hp), fun x hx => hbyte x (mt (hm ·) hx)⟩

theorem Place.Same.trans {s t u : State} {p : Place} (h : p.Same s t) (h' : p.Same t u) : p.Same s u := by
  cases p <;> exact Eq.trans h' h

theorem Frame.trans {s t u : State} {w w' : List Place} {m m' : List Word} (h : Frame s t w m)
    (h' : Frame t u w' m') : Frame s u (w ++ w') (m ++ m') := by
  obtain ⟨hplace, hbyte⟩ := h
  obtain ⟨hplace', hbyte'⟩ := h'
  constructor
  · intro p hp
    rw [List.mem_append, not_or] at hp
    exact (hplace p hp.1).trans (hplace' p hp.2)
  · intro x hx
    rw [List.mem_append, not_or] at hx
    exact (hbyte' x hx.2).trans (hbyte x hx.1)

/-- PC is no place of a frame. -/
theorem Frame.advance {s t : State} {w : List Place} {m : List Word} (h : Frame s t w m) (n : Word) :
    Frame s (t.advance n) w m := by
  obtain ⟨hplace, hbyte⟩ := h
  refine ⟨fun p hp => (hplace p hp).trans ?_, hbyte⟩
  cases p <;> rfl

/-! ### The frame of each operation -/

theorem State.setReg_frame (s : State) (r : Reg) (v : Byte) : Frame s (s.setReg r v) [.reg r] [] := by
  refine ⟨fun p hp => ?_, fun _ _ => rfl⟩
  cases p with
  | reg r' =>
    have hne : r' ≠ r := fun heq => hp (by simp [heq])
    exact (State.getReg_setReg s r r' v).trans (if_neg hne)
  | sp | flag | inte | status | env => rfl

theorem State.setSp_frame (s : State) (v : Word) : Frame s (s.setSp v) [.sp] [] := by
  refine ⟨fun p hp => ?_, fun _ _ => rfl⟩
  cases p with
  | sp => exact absurd (List.mem_singleton.2 rfl) hp
  | reg | flag | inte | status | env => rfl

/-- A pair is its two registers written one after the other, or SP (10 R33). -/
theorem State.setPair_frame (s : State) (rp : Pair) (v : Word) : Frame s (s.setPair rp v) rp.places [] := by
  cases rp with
  | bc => exact (s.setReg_frame .b (hiByte v)).trans (State.setReg_frame _ .c (loByte v))
  | de => exact (s.setReg_frame .d (hiByte v)).trans (State.setReg_frame _ .e (loByte v))
  | hl => exact (s.setReg_frame .h (hiByte v)).trans (State.setReg_frame _ .l (loByte v))
  | sp => exact s.setSp_frame v

theorem State.writeByte_frame (s : State) (a : Word) (v : Byte) : Frame s (s.writeByte a v) [] [a] := by
  refine ⟨fun p _ => by cases p <;> rfl, fun x hx => ?_⟩
  have hne : x ≠ a := mt List.mem_singleton.2 hx
  exact (State.readByte_writeByte s a x v).trans (if_neg hne)

end Sys2Proof.Machine
end

section
/-! PROOFS. Data movement (spec 40): each instruction is one write of a register, a pair or a byte and an advance of PC,
so its effect and its frame come from that one write; XCHG is two. -/

namespace Sys2Proof.Machine

/-! ### One write and an advance of PC -/

/-- An instruction that writes one register. -/
theorem completes_of_setReg {i : Instr} {s : State} {r : Reg} {v : Byte} {n : Word}
    (h : exec i s = .next ((s.setReg r v).advance n)) :
    Completes i s fun t => t.getReg r = v ∧ t.pc = s.pc + n ∧ Frame s t [.reg r] [] :=
  ⟨_, h, (s.getReg_setReg r r v).trans (if_pos rfl), rfl, (s.setReg_frame r v).advance n⟩

/-- An instruction that stores one byte. -/
theorem completes_of_writeByte {i : Instr} {s : State} {a : Word} {v : Byte} {n : Word}
    (h : exec i s = .next ((s.writeByte a v).advance n)) :
    Completes i s fun t => t.readByte a = v ∧ t.pc = s.pc + n ∧ Frame s t [] [a] :=
  ⟨_, h, (s.readByte_writeByte a a v).trans (if_pos rfl), rfl, (s.writeByte_frame a v).advance n⟩

/-- LDA and LDAX (R128, R132). -/
theorem completes_of_loadA {i : Instr} {s : State} {addr n : Word} (h : exec i s = .next (s.loadA addr n)) :
    Completes i s fun t => t.regs.a = s.readByte addr ∧ t.pc = s.pc + n ∧ Frame s t [.reg .a] [] :=
  completes_of_setReg h

/-- STA and STAX (R129, R133). -/
theorem completes_of_storeA {i : Instr} {s : State} {addr n : Word} (h : exec i s = .next (s.storeA addr n)) :
    Completes i s fun t => t.readByte addr = s.regs.a ∧ t.pc = s.pc + n ∧ Frame s t [] [addr] :=
  completes_of_writeByte h

/-! ### The families: encoding and meaning as functions of the operands -/

theorem encode_mov (r1 r2 : Reg) : encode (Forms.mov r1 r2) = [0b01#2 ++ r1.code ++ r2.code] := by
  cases r1 <;> cases r2 <;> rfl

theorem exec_mov (r1 r2 : Reg) (s : State) : exec (Forms.mov r1 r2) s = .next (s.movReg r1 r2) := by
  cases r1 <;> cases r2 <;> rfl

theorem encode_movFromM (r : Reg) : encode (Forms.movFromM r) = [0b01#2 ++ r.code ++ 0b110#3] := by
  cases r <;> rfl

theorem exec_movFromM (r : Reg) (s : State) : exec (Forms.movFromM r) s = .next (s.movFromM r) := by
  cases r <;> rfl

theorem encode_movToM (r : Reg) : encode (Forms.movToM r) = [0b01110#5 ++ r.code] := by
  cases r <;> rfl

theorem exec_movToM (r : Reg) (s : State) : exec (Forms.movToM r) s = .next (s.movToM r) := by
  cases r <;> rfl

theorem encode_mvi (r : Reg) (d : Byte) : encode (Forms.mvi r d) = [0b00#2 ++ r.code ++ 0b110#3, d] := by
  cases r <;> rfl

theorem exec_mvi (r : Reg) (d : Byte) (s : State) : exec (Forms.mvi r d) s = .next (s.mviReg r d) := by
  cases r <;> rfl

theorem exec_mviM (d : Byte) (s : State) : exec (.mviM d) s = .next ((s.writeByte s.mAddr d).advance 2) := rfl

theorem encode_lxi (rp : Pair) (d : Word) :
    encode (Forms.lxi rp d) = [0b00#2 ++ rp.code ++ 0b0001#4, loByte d, hiByte d] := by
  cases rp <;> rfl

theorem exec_lxi (rp : Pair) (d : Word) (s : State) : exec (Forms.lxi rp d) s = .next (s.lxi rp d) := by
  cases rp <;> rfl

/-- The bytes of an address or a 16-bit immediate follow the opcode low byte first (30 R93). -/
theorem bytes_of_imm16 (op lo hi : Byte) : [op, loByte (hi ++ lo), hiByte (hi ++ lo)] = [op, lo, hi] := by
  have hlo : loByte (hi ++ lo) = lo := loByte_wordOf hi lo
  have hhi : hiByte (hi ++ lo) = hi := hiByte_wordOf hi lo
  rw [hlo, hhi]

/-! ### The immediate as fetched -/

/-- The bytes fetched are those at PC and after it, wrapping (20 R64, 10 R35). -/
theorem State.getD_fetchBytes {s : State} {k : Nat} (h : k < opLength (s.readByte s.pc)) :
    s.fetchBytes.getD k 0 = s.readByte (s.pc + BitVec.ofNat 16 k) := by
  simp [State.fetchBytes, h]

/-- The step at the opcode of a two-byte instruction runs it with the byte at PC + 1. -/
theorem step_of_imm8 {s : State} {op : Byte} {f : Byte → Instr} (hdecode : ∀ d8 d16, decodeOpcode op d8 d16 = f d8)
    (hop : op ∈ formatF2) (hs : s.AtBoundary) (hpc : s.readByte s.pc = op) :
    step s = exec (f (s.readByte (s.pc + 1))) s.presented := by
  obtain ⟨hrunning, hexecute⟩ := hs
  have hlength : 1 < opLength (s.readByte s.pc) := by rw [hpc, opLength_eq_two_iff.2 hop]; decide
  have himm : s.fetchBytes.getD 1 0 = s.readByte (s.pc + 1) := State.getD_fetchBytes hlength
  have hfetch : s.fetch = f (s.readByte (s.pc + 1)) := by rw [State.fetch, hpc, hdecode, himm]
  rw [step_execute hrunning hexecute, hfetch]

theorem decodeOpcode_mvi (r : Reg) (d8 : Byte) (d16 : Word) :
    decodeOpcode (0b00#2 ++ r.code ++ 0b110#3) d8 d16 = Forms.mvi r d8 := by
  cases r <;> rfl

theorem mvi_opcode_mem_formatF2 (r : Reg) : 0b00#2 ++ r.code ++ 0b110#3 ∈ formatF2 := by
  cases r <;> decide

/-! ### The obligations -/

/-- Settles O19: one register is written, with what the other held before. -/
theorem movCopiesRegister : Obligations.MovCopiesRegister := by
  unfold Obligations.MovCopiesRegister
  exact fun s r1 r2 => ⟨encode_mov r1 r2, completes_of_setReg (exec_mov r1 r2 s)⟩

/-- Settles O20: the address is taken from the state before, whichever register is written. -/
theorem movThroughM : Obligations.MovThroughM := by
  unfold Obligations.MovThroughM
  exact fun s r => ⟨encode_movFromM r, completes_of_setReg (exec_movFromM r s),
    encode_movToM r, completes_of_writeByte (exec_movToM r s)⟩

/-- Settles O21: the effect comes from the one write, the immediate as fetched from `step_of_imm8`. -/
theorem mviLoadsImmediate : Obligations.MviLoadsImmediate := by
  unfold Obligations.MviLoadsImmediate
  constructor
  · exact fun s d => ⟨fun r => ⟨encode_mvi r d, completes_of_setReg (exec_mvi r d s)⟩,
      rfl, completes_of_writeByte (exec_mviM d s)⟩
  · exact fun s hs => ⟨fun r => step_of_imm8 (decodeOpcode_mvi r) (mvi_opcode_mem_formatF2 r) hs,
      step_of_imm8 (f := .mviM) (fun _ _ => rfl) (by decide) hs⟩

/-- Settles O22: the pair takes the immediate, whose halves are the operand bytes. -/
theorem lxiLoadsPair : Obligations.LxiLoadsPair := by
  unfold Obligations.LxiLoadsPair
  intro s rp lo hi
  refine ⟨(encode_lxi rp _).trans (bytes_of_imm16 _ lo hi), _, exec_lxi rp _ s, ?_, ?_,
    (s.setPair_frame rp _).advance 3⟩
  · cases rp with
    | bc | de | hl => exact ⟨hiByte_wordOf hi lo, loByte_wordOf hi lo⟩
    | sp => rfl
  · exact congrArg (· + 3) (s.setPair_pc rp _)

/-- Settles O23: a load writes A, a store one byte, whatever gives the address. -/
theorem loadAndStoreA : Obligations.LoadAndStoreA := by
  unfold Obligations.LoadAndStoreA
  intro s lo hi
  refine ⟨⟨bytes_of_imm16 0x3A lo hi, completes_of_loadA rfl⟩,
    ⟨bytes_of_imm16 0x32 lo hi, completes_of_storeA rfl⟩, ?_, ?_⟩
  · exact List.forall_mem_cons.2 ⟨⟨rfl, completes_of_loadA rfl⟩,
      List.forall_mem_singleton.2 ⟨rfl, completes_of_loadA rfl⟩⟩
  · exact List.forall_mem_cons.2 ⟨⟨rfl, completes_of_storeA rfl⟩,
      List.forall_mem_singleton.2 ⟨rfl, completes_of_storeA rfl⟩⟩

/-- Settles O25: both pairs are written with what the other held before. -/
theorem xchgExchangesPairs : Obligations.XchgExchangesPairs := by
  unfold Obligations.XchgExchangesPairs
  intro s
  have hframe := (s.setPair_frame .hl (s.getPair .de)).trans (State.setPair_frame _ .de (s.getPair .hl))
  exact ⟨rfl, _, rfl, hiByte_wordOf _ _, loByte_wordOf _ _, hiByte_wordOf _ _, loByte_wordOf _ _, rfl,
    (hframe.mono (by decide) (by decide)).advance 1⟩

end Sys2Proof.Machine
end

section
/-! PROOFS. Arithmetic (spec 41): each instruction is one write of a register, a pair or a byte, then one write of flags
(none for INX and DCX) and an advance of PC. The flag engine's lemmas give the numbers; the writes' frames combine. -/

namespace Sys2Proof.Machine

/-! ### Reading a pair back, and the frame of a write of flags -/

@[simp] theorem State.getPair_setPair_self (s : State) (rp : Pair) (v : Word) : (s.setPair rp v).getPair rp = v := by
  cases rp with
  | bc | de | hl => exact wordOf_hiByte_loByte v
  | sp => rfl

/-- A write of flags stays within `written` when every flag outside it gets the value it had. -/
theorem State.setFlags_frame {s : State} {f : Flags} {written : List Place}
    (hkept : ∀ g, .flag g ∉ written → f.get g = s.flag g) : Frame s (s.setFlags f) written [] := by
  refine ⟨fun p hp => ?_, fun _ _ => rfl⟩
  cases p with
  | flag g => exact hkept g hp
  | reg | sp | inte | status | env => rfl

theorem State.setFlags_frame_allFlags (s : State) (f : Flags) : Frame s (s.setFlags f) allFlags [] :=
  State.setFlags_frame fun g hg => absurd (by cases g <;> decide) hg

theorem State.setFlags_frame_keeping_cy {s : State} {f : Flags} (hcy : f.cy = s.flags.cy) :
    Frame s (s.setFlags f) [.flag .z, .flag .s, .flag .p, .flag .ac] [] := by
  refine State.setFlags_frame fun g hg => ?_
  cases g with
  | cy => exact hcy
  | z | s | p | ac => exact absurd (by decide) hg

theorem State.setCarry_frame (s : State) (c : Bool) : Frame s (s.setCarry c) [.flag .cy] [] := by
  refine State.setFlags_frame fun g hg => ?_
  cases g with
  | cy => exact absurd (by decide) hg
  | z | s | p | ac => rfl

/-- setZSP of the result (00 R18): a state that holds a result's flags has the Z, S and P of its value. -/
theorem State.zspOf_of_flags {t : State} {res : AluResult} (h : t.flags = res.flags) : t.ZspOf res.value := by
  obtain ⟨hz, hs, hp, -, -⟩ := res.flags_spec
  rw [State.ZspOf, h]
  exact ⟨hz, hs, hp⟩

/-! ### A pair, a register or the byte at HL takes a result (R164 to R169) -/

/-- INX and DCX: the pair alone is written. -/
theorem completes_of_setPair {i : Instr} {s : State} {rp : Pair} {v n : Word} {k : Nat}
    (h : exec i s = .next ((s.setPair rp v).advance n)) (hv : v.toNat = k) :
    Completes i s fun t => (t.getPair rp).toNat = k ∧ t.pc = s.pc + n ∧ Frame s t rp.places [] := by
  refine ⟨_, h, ?_, congrArg (· + n) (s.setPair_pc rp v), (s.setPair_frame rp v).advance n⟩
  exact (congrArg BitVec.toNat (s.getPair_setPair_self rp v)).trans hv

/-- INR r and DCR r: the register takes the result, and CY is the one flag kept. -/
theorem completes_of_updateReg {i : Instr} {s : State} {r : Reg} {res : AluResult} {k : Nat} {ac : Bool}
    (h : exec i s = .next (s.updateReg r res))
    (hres : res.value.toNat = k ∧ res.cy = s.flags.cy ∧ res.ac = ac) :
    Completes i s fun t => (t.getReg r).toNat = k ∧ t.ZspOf (t.getReg r) ∧ t.flags.ac = ac ∧ t.pc = s.pc + 1 ∧
      Frame s t [.reg r, .flag .z, .flag .s, .flag .p, .flag .ac] [] := by
  obtain ⟨hvalue, hcy, hac⟩ := hres
  have hread : (s.updateReg r res).getReg r = res.value := (s.getReg_setReg r r res.value).trans (if_pos rfl)
  refine ⟨_, h, by rw [hread, hvalue], ?_, hac, rfl, ?_⟩
  · rw [hread]
    exact State.zspOf_of_flags rfl
  · exact ((s.setReg_frame r res.value).trans (State.setFlags_frame_keeping_cy hcy)).advance 1

/-- INR M and DCR M: the byte at HL takes the result, and CY is the one flag kept. -/
theorem completes_of_updateM {i : Instr} {s : State} {res : AluResult} {k : Nat} {ac : Bool}
    (h : exec i s = .next (s.updateM res))
    (hres : res.value.toNat = k ∧ res.cy = s.flags.cy ∧ res.ac = ac) :
    Completes i s fun t => (t.readByte s.mAddr).toNat = k ∧ t.ZspOf (t.readByte s.mAddr) ∧ t.flags.ac = ac ∧
      t.pc = s.pc + 1 ∧ Frame s t [.flag .z, .flag .s, .flag .p, .flag .ac] [s.mAddr] := by
  obtain ⟨hvalue, hcy, hac⟩ := hres
  have hread : (s.updateM res).readByte s.mAddr = res.value :=
    (s.readByte_writeByte s.mAddr s.mAddr res.value).trans (if_pos rfl)
  refine ⟨_, h, by rw [hread, hvalue], ?_, hac, rfl, ?_⟩
  · rw [hread]
    exact State.zspOf_of_flags rfl
  · exact ((s.writeByte_frame s.mAddr res.value).trans (State.setFlags_frame_keeping_cy hcy)).advance 1

/-! ### A takes a result and all five flags (R163) -/

theorem State.accumulate_frame (s : State) (res : AluResult) (n : Word) :
    Frame s (s.accumulate res n) (.reg .a :: allFlags) [] :=
  ((s.setReg_frame .a res.value).trans (State.setFlags_frame_allFlags _ res.flags)).advance n

theorem State.accumulate_spec (s : State) (res : AluResult) (n : Word) :
    (s.accumulate res n).regs.a = res.value ∧ (s.accumulate res n).ZspOf res.value ∧
    (s.accumulate res n).flags.cy = res.cy ∧ (s.accumulate res n).flags.ac = res.ac ∧
    (s.accumulate res n).pc = s.pc + n :=
  ⟨rfl, State.zspOf_of_flags rfl, rfl, rfl, rfl⟩

/-- ADD, ADC, SUB and SBB: what the adder or the subtractor answers goes to A and the five flags. -/
theorem completes_of_accumulate {i : Instr} {s : State} {res : AluResult} {n : Word} {k : Nat} {cy ac : Bool}
    (h : exec i s = .next (s.accumulate res n)) (hres : res.value.toNat = k ∧ res.cy = cy ∧ res.ac = ac) :
    Completes i s fun t => t.regs.a.toNat = k ∧ t.ZspOf t.regs.a ∧ t.flags.cy = cy ∧ t.flags.ac = ac ∧
      t.pc = s.pc + n ∧ Frame s t (.reg .a :: allFlags) [] := by
  obtain ⟨hvalue, hcy, hac⟩ := hres
  obtain ⟨ha, hzsp, hcy', hac', hpc⟩ := s.accumulate_spec res n
  exact ⟨_, h, by rw [ha, hvalue], by rwa [ha], hcy'.trans hcy, hac'.trans hac, hpc, s.accumulate_frame res n⟩

/-! ### HL takes a sum (R182) -/

theorem State.dad_frame (s : State) (rp : Pair) : Frame s (s.dad rp) [.reg .h, .reg .l, .flag .cy] [] :=
  ((s.setPair_frame .hl _).trans (State.setCarry_frame _ _)).advance 1

theorem State.dad_spec (s : State) (rp : Pair) :
    ((s.dad rp).getPair .hl).toNat = ((s.getPair .hl).toNat + (s.getPair rp).toNat) % 65536 ∧
    (s.dad rp).flags.cy = decide ((s.getPair .hl).toNat + (s.getPair rp).toNat > 65535) ∧
    (s.dad rp).pc = s.pc + 1 :=
  ⟨congrArg BitVec.toNat (s.getPair_setPair_self .hl _), rfl, rfl⟩

/-! ### The families: encoding and meaning as functions of the operands -/

theorem encode_inx (rp : Pair) : encode (Forms.inx rp) = [0b00#2 ++ rp.code ++ 0b0011#4] := by
  cases rp <;> rfl

theorem exec_inx (rp : Pair) (s : State) : exec (Forms.inx rp) s = .next (s.inx rp) := by
  cases rp <;> rfl

theorem encode_dcx (rp : Pair) : encode (Forms.dcx rp) = [0b00#2 ++ rp.code ++ 0b1011#4] := by
  cases rp <;> rfl

theorem exec_dcx (rp : Pair) (s : State) : exec (Forms.dcx rp) s = .next (s.dcx rp) := by
  cases rp <;> rfl

theorem encode_dad (rp : Pair) : encode (Forms.dad rp) = [0b00#2 ++ rp.code ++ 0b1001#4] := by
  cases rp <;> rfl

theorem exec_dad (rp : Pair) (s : State) : exec (Forms.dad rp) s = .next (s.dad rp) := by
  cases rp <;> rfl

theorem encode_inr (r : Reg) : encode (Forms.inr r) = [0b00#2 ++ r.code ++ 0b100#3] := by
  cases r <;> rfl

theorem exec_inr (r : Reg) (s : State) :
    exec (Forms.inr r) s = .next (s.updateReg r (inc8 (s.getReg r) s.flags.cy)) := by
  cases r <;> rfl

theorem exec_inrM (s : State) : exec .inrM s = .next (s.updateM (inc8 (s.readByte s.mAddr) s.flags.cy)) := rfl

theorem encode_dcr (r : Reg) : encode (Forms.dcr r) = [0b00#2 ++ r.code ++ 0b101#3] := by
  cases r <;> rfl

theorem exec_dcr (r : Reg) (s : State) :
    exec (Forms.dcr r) s = .next (s.updateReg r (dec8 (s.getReg r) s.flags.cy)) := by
  cases r <;> rfl

theorem exec_dcrM (s : State) : exec .dcrM s = .next (s.updateM (dec8 (s.readByte s.mAddr) s.flags.cy)) := rfl

theorem encode_add (x : Src) : encode (Forms.add x) = aluBytes 0b000 x := by
  obtain ⟨⟨⟩⟩ | _ | _ := x <;> rfl

theorem exec_add (x : Src) (s : State) : exec (Forms.add x) s = .next (s.add x) := by
  obtain ⟨⟨⟩⟩ | _ | _ := x <;> rfl

theorem encode_adc (x : Src) : encode (Forms.adc x) = aluBytes 0b001 x := by
  obtain ⟨⟨⟩⟩ | _ | _ := x <;> rfl

theorem exec_adc (x : Src) (s : State) : exec (Forms.adc x) s = .next (s.adc x) := by
  obtain ⟨⟨⟩⟩ | _ | _ := x <;> rfl

theorem encode_sub (x : Src) : encode (Forms.sub x) = aluBytes 0b010 x := by
  obtain ⟨⟨⟩⟩ | _ | _ := x <;> rfl

theorem exec_sub (x : Src) (s : State) : exec (Forms.sub x) s = .next (s.sub x) := by
  obtain ⟨⟨⟩⟩ | _ | _ := x <;> rfl

theorem encode_sbb (x : Src) : encode (Forms.sbb x) = aluBytes 0b011 x := by
  obtain ⟨⟨⟩⟩ | _ | _ := x <;> rfl

theorem exec_sbb (x : Src) (s : State) : exec (Forms.sbb x) s = .next (s.sbb x) := by
  obtain ⟨⟨⟩⟩ | _ | _ := x <;> rfl

/-! ### The obligations -/

/-- Settles O26: the pair alone is written, and counting in 16 bits is counting modulo 65,536. -/
theorem inxDcxCountModulo65536 : Obligations.InxDcxCountModulo65536 := by
  unfold Obligations.InxDcxCountModulo65536
  intro s rp
  have hinc : (s.getPair rp + 1).toNat = ((s.getPair rp).toNat + 1) % 65536 := BitVec.toNat_add _ 1
  have hdec : (s.getPair rp - 1).toNat = ((s.getPair rp).toNat + 65535) % 65536 := by
    rw [BitVec.toNat_sub, Nat.add_comm]
    rfl
  exact ⟨⟨encode_inx rp, completes_of_setPair (exec_inx rp s) hinc⟩,
    encode_dcx rp, completes_of_setPair (exec_dcx rp s) hdec⟩

/-- Settles O27: `inc8` gives the result and AC and hands CY through. -/
theorem inrIncrements : Obligations.InrIncrements := by
  unfold Obligations.InrIncrements
  exact fun s => ⟨fun r => ⟨encode_inr r, completes_of_updateReg (exec_inr r s) (inc8_spec _ _)⟩,
    rfl, completes_of_updateM (exec_inrM s) (inc8_spec _ _)⟩

/-- Settles O28: `dec8` gives the result and AC and hands CY through. -/
theorem dcrDecrements : Obligations.DcrDecrements := by
  unfold Obligations.DcrDecrements
  exact fun s => ⟨fun r => ⟨encode_dcr r, completes_of_updateReg (exec_dcr r s) (dec8_spec _ _)⟩,
    rfl, completes_of_updateM (exec_dcrM s) (dec8_spec _ _)⟩

/-- Settles O29: the adder with carry-in 0. -/
theorem addAddsToA : Obligations.AddAddsToA := by
  unfold Obligations.AddAddsToA
  exact fun s x => ⟨encode_add x, completes_of_accumulate (exec_add x s) (add8_spec _ _ false)⟩

/-- Settles O30: the adder with carry-in CY. -/
theorem adcAddsWithCarry : Obligations.AdcAddsWithCarry := by
  unfold Obligations.AdcAddsWithCarry
  exact fun s x => ⟨encode_adc x, completes_of_accumulate (exec_adc x s) (add8_spec _ _ s.flags.cy)⟩

/-- Settles O31: the subtractor with borrow-in 0. -/
theorem subSubtractsFromA : Obligations.SubSubtractsFromA := by
  unfold Obligations.SubSubtractsFromA
  exact fun s x => ⟨encode_sub x, completes_of_accumulate (exec_sub x s) (sub8_spec _ _ false)⟩

/-- Settles O32: the subtractor with borrow-in CY. -/
theorem sbbSubtractsWithBorrow : Obligations.SbbSubtractsWithBorrow := by
  unfold Obligations.SbbSubtractsWithBorrow
  exact fun s x => ⟨encode_sbb x, completes_of_accumulate (exec_sbb x s) (sub8_spec _ _ s.flags.cy)⟩

/-- Settles O33: HL is written, then CY alone of the flags. -/
theorem dadAddsToHl : Obligations.DadAddsToHl := by
  unfold Obligations.DadAddsToHl
  intro s rp
  obtain ⟨hsum, hcy, hpc⟩ := s.dad_spec rp
  exact ⟨encode_dad rp, _, exec_dad rp s, hsum, hcy, hpc, s.dad_frame rp⟩

end Sys2Proof.Machine
end

section
/-! PROOFS. Compare, rotates, complement and carry (spec 42, R210 to R221): a write of the flags, of A and CY, of A, or
of CY alone, then an advance of PC. The rotates without the carry are those through it, fed with the bit shifted out. -/

namespace Sys2Proof.Machine

/-! ### Compare: the subtractor's flags, and A kept (R210 to R212) -/

theorem encode_cmp (x : Src) : encode (Forms.cmp x) = aluBytes 0b111 x := by
  obtain ⟨⟨⟩⟩ | _ | _ := x <;> rfl

theorem exec_cmp (x : Src) (s : State) : exec (Forms.cmp x) s = .next (s.cmp x) := by
  obtain ⟨⟨⟩⟩ | _ | _ := x <;> rfl

theorem State.cmp_frame (s : State) (x : Src) : Frame s (s.cmp x) allFlags [] :=
  (s.setFlags_frame_allFlags _).advance x.length

theorem State.cmp_flags_eq_sub_flags (s : State) (x : Src) : (s.cmp x).flags = (s.sub x).flags := rfl

/-- Without a borrow-in the subtractor's flags compare its operands. -/
theorem sub8_flags_compare (a b : Byte) :
    (sub8 a b false).flags.z = decide (a = b) ∧ (sub8 a b false).flags.cy = decide (a.toNat < b.toNat) ∧
    (sub8 a b false).flags.ac = decide (a.toNat % 16 < b.toNat % 16) := by
  obtain ⟨hz, -, -, hcy, hac⟩ := (sub8 a b false).flags_spec
  obtain ⟨-, hborrow, hhalf⟩ := sub8_spec a b false
  refine ⟨?_, hcy.trans hborrow, hac.trans hhalf⟩
  have hdiff : a - b = 0 ↔ a = b := by bv_omega
  rw [hz, sub8_value, decide_eq_decide]
  exact hdiff

theorem State.cmp_zspOf (s : State) (x : Src) : (s.cmp x).ZspOf (s.regs.a - s.src x) := by
  rw [← sub8_value]
  exact State.zspOf_of_flags rfl

/-! ### Rotates: A and CY take the nine bits of the old pair (R213 to R217) -/

/-- Rotate left through carry (R216), bit by bit. -/
theorem ral8_spec (a : Byte) (cy : Bool) :
    (∀ k < 7, (ral8 a cy).1.getLsbD (k + 1) = a.getLsbD k) ∧ (ral8 a cy).1.getLsbD 0 = cy ∧
    (ral8 a cy).2 = a.getLsbD 7 := by
  refine ⟨fun k hk => ?_, ?_, rfl⟩
  · have hk' : k + 1 < 8 := by omega
    simp [ral8, hk', BitVec.getLsbD_eq_getElem (Nat.lt_of_succ_lt hk')]
  · simp [ral8]

/-- Rotate right through carry (R217), bit by bit. -/
theorem rar8_spec (a : Byte) (cy : Bool) :
    (∀ k < 7, (rar8 a cy).1.getLsbD k = a.getLsbD (k + 1)) ∧ (rar8 a cy).1.getLsbD 7 = cy ∧
    (rar8 a cy).2 = a.getLsbD 0 := by
  refine ⟨fun k hk => ?_, ?_, rfl⟩
  · simp [rar8, hk, Nat.add_comm]
  · simp [rar8]

theorem rlc8_eq_ral8 (a : Byte) : rlc8 a = ral8 a (a.getLsbD 7) := rfl

theorem rrc8_eq_rar8 (a : Byte) : rrc8 a = rar8 a (a.getLsbD 0) := rfl

theorem exec_rlc (s : State) : exec .rlc s = .next (s.rotate (rlc8 s.regs.a)) := rfl

theorem exec_rrc (s : State) : exec .rrc s = .next (s.rotate (rrc8 s.regs.a)) := rfl

theorem exec_ral (s : State) : exec .ral s = .next (s.rotate (ral8 s.regs.a s.flags.cy)) := rfl

theorem exec_rar (s : State) : exec .rar s = .next (s.rotate (rar8 s.regs.a s.flags.cy)) := rfl

theorem State.rotate_frame (s : State) (r : Byte × Bool) : Frame s (s.rotate r) [.reg .a, .flag .cy] [] :=
  ((s.setReg_frame .a r.1).trans (State.setCarry_frame _ r.2)).advance 1

theorem State.rotate_spec (s : State) (r : Byte × Bool) :
    (s.rotate r).regs.a = r.1 ∧ (s.rotate r).flags.cy = r.2 ∧ (s.rotate r).pc = s.pc + 1 :=
  ⟨rfl, rfl, rfl⟩

/-- RLC and RAL: `feed` is the bit that enters at bit 0. -/
theorem completes_of_rotateLeft {i : Instr} {s : State} {feed : Bool}
    (h : exec i s = .next (s.rotate (ral8 s.regs.a feed))) :
    Completes i s fun t =>
      (∀ k < 7, t.regs.a.getLsbD (k + 1) = s.regs.a.getLsbD k) ∧ t.regs.a.getLsbD 0 = feed ∧
      t.flags.cy = s.regs.a.getLsbD 7 ∧ t.pc = s.pc + 1 ∧ Frame s t [.reg .a, .flag .cy] [] := by
  obtain ⟨hmoved, hfeed, hout⟩ := ral8_spec s.regs.a feed
  obtain ⟨ha, hcy, hpc⟩ := s.rotate_spec (ral8 s.regs.a feed)
  exact ⟨_, h, by rwa [ha], by rwa [ha], hcy.trans hout, hpc, s.rotate_frame _⟩

/-- RRC and RAR: `feed` is the bit that enters at bit 7. -/
theorem completes_of_rotateRight {i : Instr} {s : State} {feed : Bool}
    (h : exec i s = .next (s.rotate (rar8 s.regs.a feed))) :
    Completes i s fun t =>
      (∀ k < 7, t.regs.a.getLsbD k = s.regs.a.getLsbD (k + 1)) ∧ t.regs.a.getLsbD 7 = feed ∧
      t.flags.cy = s.regs.a.getLsbD 0 ∧ t.pc = s.pc + 1 ∧ Frame s t [.reg .a, .flag .cy] [] := by
  obtain ⟨hmoved, hfeed, hout⟩ := rar8_spec s.regs.a feed
  obtain ⟨ha, hcy, hpc⟩ := s.rotate_spec (rar8 s.regs.a feed)
  exact ⟨_, h, by rwa [ha], by rwa [ha], hcy.trans hout, hpc, s.rotate_frame _⟩

/-! ### Complement and carry (R219 to R221) -/

theorem exec_cma (s : State) : exec .cma s = .next ((s.setReg .a (~~~s.regs.a)).advance 1) := rfl

theorem exec_stc (s : State) : exec .stc s = .next ((s.setCarry true).advance 1) := rfl

theorem exec_cmc (s : State) : exec .cmc s = .next ((s.setCarry (!s.flags.cy)).advance 1) := rfl

/-- STC and CMC: CY alone is written. -/
theorem completes_of_setCarry {i : Instr} {s : State} {c : Bool} {n : Word}
    (h : exec i s = .next ((s.setCarry c).advance n)) :
    Completes i s fun t => t.flags.cy = c ∧ t.pc = s.pc + n ∧ Frame s t [.flag .cy] [] :=
  ⟨_, h, rfl, rfl, (s.setCarry_frame c).advance n⟩

/-! ### The obligations -/

/-- Settles O37: CMP writes the flags SUB writes, and the subtractor's flags compare its operands. -/
theorem cmpSetsFlagsOfSub : Obligations.CmpSetsFlagsOfSub := by
  unfold Obligations.CmpSetsFlagsOfSub
  intro s x
  obtain ⟨hz, hcy, hac⟩ := sub8_flags_compare s.regs.a (s.src x)
  exact ⟨encode_cmp x, _, exec_cmp x s, hz, hcy, hac, s.cmp_zspOf x,
    ⟨_, exec_sub x s, s.cmp_flags_eq_sub_flags x⟩, rfl, s.cmp_frame x⟩

/-- Settles O38: RLC and RRC rotate through a carry that holds the bit shifted out. -/
theorem rotatesMoveBits : Obligations.RotatesMoveBits := by
  unfold Obligations.RotatesMoveBits
  intro s
  have hrlc : exec .rlc s = .next (s.rotate (ral8 s.regs.a (s.regs.a.getLsbD 7))) := by
    rw [exec_rlc, rlc8_eq_ral8]
  have hrrc : exec .rrc s = .next (s.rotate (rar8 s.regs.a (s.regs.a.getLsbD 0))) := by
    rw [exec_rrc, rrc8_eq_rar8]
  exact ⟨⟨rfl, completes_of_rotateLeft hrlc⟩, ⟨rfl, completes_of_rotateRight hrrc⟩,
    ⟨rfl, completes_of_rotateLeft (exec_ral s)⟩, rfl, completes_of_rotateRight (exec_rar s)⟩

/-- Settles O42: A alone or CY alone is written, and the complement of a byte is its distance from 255. -/
theorem complementAndCarry : Obligations.ComplementAndCarry := by
  unfold Obligations.ComplementAndCarry
  intro s
  obtain ⟨t, hexec, ha, hpc, hframe⟩ := completes_of_setReg (exec_cma s)
  have hnot : t.regs.a.toNat = 255 - s.regs.a.toNat := (congrArg BitVec.toNat ha).trans BitVec.toNat_not
  exact ⟨⟨rfl, t, hexec, hnot, hpc, hframe⟩, ⟨rfl, completes_of_setCarry (exec_stc s)⟩,
    rfl, completes_of_setCarry (exec_cmc s)⟩

end Sys2Proof.Machine
end

section
/-! PROOFS. Stack (spec 43, R250, R251, R254, R256, R258, R259): a 16-bit access is two bytes at two different addresses,
so what a push or XTHL stores can be read back; the rest is one write of SP or of a pair, and an advance of PC. -/

namespace Sys2Proof.Machine

/-! ### A 16-bit store, read back byte by byte (20 R63) -/

theorem State.readByte_writeWord_low (s : State) (a v : Word) : (s.writeWord a v).readByte a = loByte v := by
  obtain ⟨hread, -⟩ := s.writeWord_spec a v
  rw [hread, if_neg (ne_add_one a).symm, if_pos rfl]

theorem State.readByte_writeWord_high (s : State) (a v : Word) : (s.writeWord a v).readByte (a + 1) = hiByte v := by
  obtain ⟨hread, -⟩ := s.writeWord_spec a v
  rw [hread, if_pos rfl]

theorem State.writeWord_frame (s : State) (a v : Word) : Frame s (s.writeWord a v) [] [a, a + 1] :=
  (s.writeByte_frame a (loByte v)).trans (State.writeByte_frame _ (a + 1) (hiByte v))

/-! ### push16, and pop16 after it (R250, R251) -/

theorem State.readByte_push16_high (s : State) (v : Word) : (s.push16 v).readByte (s.sp - 1) = hiByte v := by
  obtain ⟨hread, -⟩ := s.push16_spec v
  rw [hread, if_neg (sub_two_ne_sub_one s.sp).symm, if_pos rfl]

theorem State.readByte_push16_low (s : State) (v : Word) : (s.push16 v).readByte (s.sp - 2) = loByte v := by
  obtain ⟨hread, -⟩ := s.push16_spec v
  rw [hread, if_pos rfl]

@[simp] theorem State.push16_sp (s : State) (v : Word) : (s.push16 v).sp = s.sp - 2 := rfl

@[simp] theorem State.push16_pc (s : State) (v : Word) : (s.push16 v).pc = s.pc := rfl

theorem State.push16_frame (s : State) (v : Word) : Frame s (s.push16 v) [.sp] [s.sp - 1, s.sp - 2] :=
  ((s.writeByte_frame (s.sp - 1) (hiByte v)).trans (State.writeByte_frame _ (s.sp - 2) (loByte v))).trans
    (State.setSp_frame _ (s.sp - 2))

/-- A pop reads the two addresses the push before it wrote. -/
@[simp] theorem State.popValue_push16 (s : State) (v : Word) : (s.push16 v).popValue = v := by
  have haddr : s.sp - 2 + 1 = s.sp - 1 := by bv_omega
  rw [State.popValue, s.push16_sp, haddr, s.readByte_push16_high, s.readByte_push16_low, wordOf_hiByte_loByte]

@[simp] theorem State.popStack_push16_sp (s : State) (v : Word) : (s.push16 v).popStack.sp = s.sp :=
  BitVec.sub_add_cancel s.sp 2

/-! ### A pair made of two registers (10 R33) -/

theorem State.getPair_of_places {rp : Pair} {high low : Reg} (hplaces : rp.places = [.reg high, .reg low]) (s : State) :
    s.getPair rp = wordOf (s.getReg high) (s.getReg low) := by
  cases rp with
  | bc | de | hl => cases hplaces; rfl
  | sp => cases hplaces

theorem State.setPair_of_places {rp : Pair} {high low : Reg} (hplaces : rp.places = [.reg high, .reg low]) (s : State)
    (v : Word) :
    (s.setPair rp v).getReg high = hiByte v ∧ (s.setPair rp v).getReg low = loByte v ∧ (s.setPair rp v).sp = s.sp := by
  cases rp with
  | bc | de | hl => cases hplaces; exact ⟨rfl, rfl, rfl⟩
  | sp => cases hplaces

/-! ### PUSH rp and POP rp (R254, R256) -/

theorem completes_of_push {i : Instr} {s : State} {rp : Pair} {high low : Reg} (h : exec i s = .next (s.push rp))
    (hplaces : rp.places = [.reg high, .reg low]) :
    Completes i s fun t => t.readByte (s.sp - 1) = s.getReg high ∧ t.readByte (s.sp - 2) = s.getReg low ∧
      t.sp = s.sp - 2 ∧ t.pc = s.pc + 1 ∧ Frame s t [.sp] [s.sp - 1, s.sp - 2] := by
  have hpair := State.getPair_of_places hplaces s
  have hhigh : (s.push rp).readByte (s.sp - 1) = s.getReg high := by
    rw [← hiByte_wordOf (s.getReg high) (s.getReg low), ← hpair]
    exact s.readByte_push16_high _
  have hlow : (s.push rp).readByte (s.sp - 2) = s.getReg low := by
    rw [← loByte_wordOf (s.getReg high) (s.getReg low), ← hpair]
    exact s.readByte_push16_low _
  exact ⟨_, h, hhigh, hlow, rfl, rfl, (s.push16_frame _).advance 1⟩

theorem completes_of_pop {i : Instr} {s : State} {rp : Pair} {high low : Reg} (h : exec i s = .next (s.pop rp))
    (hplaces : rp.places = [.reg high, .reg low]) :
    Completes i s fun t => t.getReg low = s.readByte s.sp ∧ t.getReg high = s.readByte (s.sp + 1) ∧
      t.sp = s.sp + 2 ∧ t.pc = s.pc + 1 ∧ Frame s t [.sp, .reg high, .reg low] [] := by
  obtain ⟨hhigh, hlow, hsp⟩ := s.popStack.setPair_of_places hplaces s.popValue
  have hframe := (s.setSp_frame (s.sp + 2)).trans (State.setPair_frame _ rp s.popValue)
  rw [hplaces] at hframe
  exact ⟨_, h, hlow.trans (loByte_wordOf _ _), hhigh.trans (hiByte_wordOf _ _), hsp,
    congrArg (· + 1) (State.setPair_pc _ rp _), hframe.advance 1⟩

/-! ### The obligations -/

/-- Settles O18: a push stores at two different addresses, and a pop reads the same two. -/
theorem stackPrimitives : Obligations.StackPrimitives := by
  unfold Obligations.StackPrimitives
  intro s v
  obtain ⟨hvalue, hstack⟩ := s.pop16_spec
  exact ⟨(s.readByte_push16_high v).trans (hiByte_eq v), (s.readByte_push16_low v).trans (loByte_eq v),
    s.push16_sp v, s.push16_pc v, s.push16_frame v, hvalue, hstack, s.popValue_push16 v, s.popStack_push16_sp v⟩

/-- Settles O43: one argument for the three pairs, whose registers are their places. -/
theorem pushAndPopPairs : Obligations.PushAndPopPairs := by
  unfold Obligations.PushAndPopPairs
  intro s
  constructor
  · exact List.forall_mem_cons.2 ⟨⟨rfl, completes_of_push (rp := .bc) rfl rfl⟩,
      List.forall_mem_cons.2 ⟨⟨rfl, completes_of_push (rp := .de) rfl rfl⟩,
        List.forall_mem_singleton.2 ⟨rfl, completes_of_push (rp := .hl) rfl rfl⟩⟩⟩
  · exact List.forall_mem_cons.2 ⟨⟨rfl, completes_of_pop (rp := .bc) rfl rfl⟩,
      List.forall_mem_cons.2 ⟨⟨rfl, completes_of_pop (rp := .de) rfl rfl⟩,
        List.forall_mem_singleton.2 ⟨rfl, completes_of_pop (rp := .hl) rfl rfl⟩⟩⟩

/-- Settles O46: XTHL reads the stack before it stores HL there, and its two addresses differ even where they wrap. -/
theorem xthlAndSphl : Obligations.XthlAndSphl := by
  unfold Obligations.XthlAndSphl
  intro s
  have hlow := (s.readByte_writeWord_low s.sp (s.getPair .hl)).trans (loByte_wordOf s.regs.h s.regs.l)
  have hhigh := (s.readByte_writeWord_high s.sp (s.getPair .hl)).trans (hiByte_wordOf s.regs.h s.regs.l)
  have hframe := (s.writeWord_frame s.sp (s.getPair .hl)).trans (State.setPair_frame _ .hl (s.readWord s.sp))
  exact ⟨⟨rfl, _, rfl, loByte_wordOf _ _, hiByte_wordOf _ _, hlow, hhigh, rfl, hframe.advance 1⟩,
    rfl, _, rfl, rfl, rfl, (s.setSp_frame (s.getPair .hl)).advance 1⟩

end Sys2Proof.Machine
end

section
/-! PROOFS. Control transfers (spec 44): a jump writes PC alone, a call is a push and a jump, a return a pop and a jump; a
transfer not taken is an advance of PC. One argument serves the eight conditions of each kind. -/

namespace Sys2Proof.Machine

/-! ### The operand as fetched -/

/-- The step at the opcode of a three-byte instruction runs it with the bytes at PC + 2 and PC + 1. -/
theorem step_of_imm16 {s : State} {op : Byte} {f : Word → Instr} (hdecode : ∀ d8 d16, decodeOpcode op d8 d16 = f d16)
    (hop : op ∈ formatF3) (hs : s.AtBoundary) (hpc : s.readByte s.pc = op) :
    step s = exec (f (wordOf (s.readByte (s.pc + 2)) (s.readByte (s.pc + 1)))) s.presented := by
  obtain ⟨hrunning, hexecute⟩ := hs
  have hlength : opLength (s.readByte s.pc) = 3 := by rw [hpc, opLength_eq_three_iff.2 hop]
  have hlow : s.fetchBytes.getD 1 0 = s.readByte (s.pc + 1) := State.getD_fetchBytes (by omega)
  have hhigh : s.fetchBytes.getD 2 0 = s.readByte (s.pc + 2) := State.getD_fetchBytes (by omega)
  have hfetch : s.fetch = f (wordOf (s.readByte (s.pc + 2)) (s.readByte (s.pc + 1))) := by
    rw [State.fetch, hpc, hdecode, hlow, hhigh]
  rw [step_execute hrunning hexecute, hfetch]

/-! ### Jump, call and return: what each does to the state -/

/-- A jump stays within the empty frame. -/
theorem State.setPc_frame (s : State) (target : Word) : Frame s (s.setPc target) [] [] :=
  ⟨fun p _ => by cases p <;> rfl, fun _ _ => rfl⟩

/-- `t` is `s` with PC at `target`: a jump taken, or a transfer not taken. -/
def Jumped (s t : State) (target : Word) : Prop := t.pc = target ∧ Frame s t [] []

/-- `t` is `s` after a call: the return address is pushed, high byte above low byte, and PC is the target. -/
def Called (s t : State) (ret target : Word) : Prop :=
  t.pc = target ∧ t.sp = s.sp - 2 ∧ t.readByte (s.sp - 1) = (ret >>> 8).setWidth 8 ∧
  t.readByte (s.sp - 2) = ret.setWidth 8 ∧ Frame s t [.sp] [s.sp - 1, s.sp - 2]

/-- `t` is `s` after a return: PC is popped. -/
def Returned (s t : State) : Prop :=
  t.pc = s.readByte (s.sp + 1) ++ s.readByte s.sp ∧ t.sp = s.sp + 2 ∧ Frame s t [.sp] []

theorem State.setPc_jumped (s : State) (target : Word) : Jumped s (s.setPc target) target := ⟨rfl, s.setPc_frame target⟩

theorem State.advance_jumped (s : State) (n : Word) : Jumped s (s.advance n) (s.pc + n) := s.setPc_jumped (s.pc + n)

theorem State.callTo_called (s : State) (ret target : Word) : Called s (s.callTo ret target) ret target :=
  ⟨rfl, rfl, (s.readByte_push16_high ret).trans (hiByte_eq ret), (s.readByte_push16_low ret).trans (loByte_eq ret),
    (s.push16_frame ret).trans (State.setPc_frame _ target)⟩

theorem State.returnToCaller_returned (s : State) : Returned s s.returnToCaller :=
  ⟨rfl, rfl, (s.setSp_frame (s.sp + 2)).trans (State.setPc_frame _ s.popValue)⟩

/-! ### The conditions: a flag and the value it must have (30 R97, 44 R270) -/

/-- The flag a condition tests. -/
def Cond.flag : Cond → Flag
  | .nz | .z => .z
  | .nc | .c => .cy
  | .po | .pe => .p
  | .p | .m => .s

/-- The value that flag must have. -/
def Cond.polarity : Cond → Bool
  | .nz | .nc | .po | .p => false
  | .z | .c | .pe | .m => true

theorem State.cond_iff (s : State) (test : Cond) : s.cond test = true ↔ s.flag test.flag = test.polarity := by
  cases test with
  | nz | nc | po | p => exact iff_of_eq (Bool.not_eq_true' _)
  | z | c | pe | m => exact Iff.rfl

/-- A conditional transfer does what is done if its flag has its polarity, and else only advances PC. -/
theorem Completes.of_cond {i : Instr} {s taken : State} {test : Cond} {n : Word} {P : State → Prop}
    (h : exec i s = .next (if s.cond test then taken else s.advance n)) (htaken : P taken) :
    Completes i s fun t => if s.flag test.flag = test.polarity then P t else Jumped s t (s.pc + n) := by
  by_cases hflag : s.flag test.flag = test.polarity
  · rw [if_pos ((s.cond_iff test).2 hflag)] at h
    exact ⟨taken, h, Eq.mpr (if_pos hflag) htaken⟩
  · rw [if_neg (mt (s.cond_iff test).1 hflag)] at h
    exact ⟨s.advance n, h, Eq.mpr (if_neg hflag) (s.advance_jumped n)⟩

/-- The two ways a conditional jump can go, as one: PC is the operand or the address after the jump. -/
theorem jumped_ite {s t : State} {c : Prop} [Decidable c] {a b : Word}
    (h : if c then Jumped s t a else Jumped s t b) : Jumped s t (if c then a else b) := by
  by_cases hc : c
  · rwa [if_pos hc] at h ⊢
  · rwa [if_neg hc] at h ⊢

/-! ### The families: encoding and meaning as functions of the condition or the restart number -/

/-- Jcc a16 (R273 to R280). -/
def Cond.jump (target : Word) : Cond → Instr
  | .nz => .jnz target | .z => .jz target | .nc => .jnc target | .c => .jc target
  | .po => .jpo target | .pe => .jpe target | .p => .jp target | .m => .jm target

/-- Ccc a16 (R282 to R289). -/
def Cond.call (target : Word) : Cond → Instr
  | .nz => .cnz target | .z => .cz target | .nc => .cnc target | .c => .cc target
  | .po => .cpo target | .pe => .cpe target | .p => .cp target | .m => .cm target

/-- Rcc (R291 to R298). -/
def Cond.ret : Cond → Instr
  | .nz => .rnz | .z => .rz | .nc => .rnc | .c => .rc | .po => .rpo | .pe => .rpe | .p => .rp | .m => .rm

theorem encode_jump (test : Cond) (lo hi : Byte) :
    encode (test.jump (hi ++ lo)) = [0b11#2 ++ test.code ++ 0b010#3, lo, hi] := by
  rw [← bytes_of_imm16]
  cases test <;> rfl

theorem exec_jump (test : Cond) (target : Word) (s : State) :
    exec (test.jump target) s = .next (s.jumpIf test target) := by
  cases test <;> rfl

theorem encode_call (test : Cond) (lo hi : Byte) :
    encode (test.call (hi ++ lo)) = [0b11#2 ++ test.code ++ 0b100#3, lo, hi] := by
  rw [← bytes_of_imm16]
  cases test <;> rfl

theorem exec_call (test : Cond) (target : Word) (s : State) :
    exec (test.call target) s = .next (s.callIf test target) := by
  cases test <;> rfl

theorem encode_ret (test : Cond) : encode test.ret = [0b11#2 ++ test.code ++ 0b000#3] := by
  cases test <;> rfl

theorem exec_ret (test : Cond) (s : State) : exec test.ret s = .next (s.returnIf test) := by
  cases test <;> rfl

/-- RST n with its number (R299). -/
def restarts : List (Instr × BitVec 3) :=
  [(.rst0, 0), (.rst1, 1), (.rst2, 2), (.rst3, 3), (.rst4, 4), (.rst5, 5), (.rst6, 6), (.rst7, 7)]

theorem encode_restart : ∀ x ∈ restarts, encode x.1 = [0b11#2 ++ x.2 ++ 0b111#3] := by decide

theorem exec_restart (s : State) : ∀ x ∈ restarts, exec x.1 s = .next (s.restart x.2) := by
  simp only [restarts, List.forall_mem_cons]
  exact ⟨rfl, rfl, rfl, rfl, rfl, rfl, rfl, rfl, List.forall_mem_nil _⟩

/-- The conditions in the order of their codes. -/
def Cond.all : List Cond := [.nz, .z, .nc, .c, .po, .pe, .p, .m]

/-- A row of a table of conditional transfers: the instruction, its opcode 11 CCC `k`, the flag and its polarity. -/
def Cond.row (form : Cond → Instr) (k : BitVec 3) (test : Cond) : Instr × Byte × Flag × Bool :=
  (form test, 0b11#2 ++ test.code ++ k, test.flag, test.polarity)

theorem forall_mem_condRows {form : Cond → Instr} {k : BitVec 3} {P : Instr × Byte × Flag × Bool → Prop}
    (h : ∀ test : Cond, P (test.row form k)) : ∀ x ∈ Cond.all.map (Cond.row form k), P x :=
  List.forall_mem_map.2 fun test _ => h test

/-! ### The obligations -/

/-- Settles O47: PC alone is written. -/
theorem jmpAndPchl : Obligations.JmpAndPchl := by
  unfold Obligations.JmpAndPchl
  exact fun s lo hi => ⟨⟨bytes_of_imm16 0xC3 lo hi, _, rfl, s.setPc_jumped (hi ++ lo)⟩,
    rfl, _, rfl, s.setPc_jumped (s.getPair .hl)⟩

/-- Settles O48: the table is that of the eight conditions, and a jump taken or not writes PC alone. -/
theorem conditionalJumps : Obligations.ConditionalJumps := by
  unfold Obligations.ConditionalJumps
  intro s lo hi
  refine forall_mem_condRows (form := Cond.jump (hi ++ lo)) (k := 0b010) fun test => ⟨encode_jump test lo hi, ?_⟩
  obtain ⟨t, hexec, hjumped⟩ :=
    Completes.of_cond (P := (Jumped s · (hi ++ lo))) (exec_jump test (hi ++ lo) s) (s.setPc_jumped (hi ++ lo))
  exact ⟨t, hexec, jumped_ite hjumped⟩

/-- Settles O49: a call is `callTo`, and the step hands it the two bytes fetched before it pushes. -/
theorem callsPushReturnAddress : Obligations.CallsPushReturnAddress := by
  unfold Obligations.CallsPushReturnAddress
  refine ⟨fun s => step_of_imm16 (f := .call) (fun _ _ => rfl) (by decide), fun s lo hi => ?_⟩
  have hcalled := s.callTo_called (s.pc + 3) (hi ++ lo)
  exact ⟨⟨bytes_of_imm16 0xCD lo hi, _, rfl, hcalled⟩,
    forall_mem_condRows (form := Cond.call (hi ++ lo)) (k := 0b100) fun test =>
      ⟨encode_call test lo hi, Completes.of_cond (exec_call test (hi ++ lo) s) hcalled⟩⟩

/-- Settles O50: a return is `returnToCaller`. -/
theorem returnsPopReturnAddress : Obligations.ReturnsPopReturnAddress := by
  unfold Obligations.ReturnsPopReturnAddress
  exact fun s => ⟨⟨rfl, _, rfl, s.returnToCaller_returned⟩,
    forall_mem_condRows (form := Cond.ret) (k := 0b000) fun test =>
      ⟨encode_ret test, Completes.of_cond (exec_ret test s) s.returnToCaller_returned⟩⟩

/-- Settles O51: RST n is a call of 8 n. -/
theorem rstCallsItsVector : Obligations.RstCallsItsVector := by
  unfold Obligations.RstCallsItsVector
  intro s x hx
  obtain ⟨hpc, hstack⟩ := s.callTo_called (s.pc + 1) (vectorAddress x.2)
  have htarget : (s.restart x.2).pc.toNat = 8 * x.2.toNat := (congrArg BitVec.toNat hpc).trans (vectorAddress_toNat x.2)
  exact ⟨encode_restart x hx, _, exec_restart s x hx, htarget, hstack⟩

end Sys2Proof.Machine
end

section
/-! PROOFS. System and interrupt control (spec 45, R320, R325): NOP is an advance of PC, DI a write of INTE before it; a
request presented while INTE is 0 is only spent (60 R412). -/

namespace Sys2Proof.Machine

/-! ### The step at an opcode without operands, and at a request that INTE does not admit -/

/-- The step at the opcode of a one-byte instruction runs it, whatever bytes follow. -/
theorem step_of_noOperand {s : State} {op : Byte} {i : Instr} (hdecode : ∀ d8 d16, decodeOpcode op d8 d16 = i)
    (hs : s.AtBoundary) (hpc : s.readByte s.pc = op) : step s = exec i s.presented := by
  obtain ⟨hrunning, hexecute⟩ := hs
  have hfetch : s.fetch = i := by rw [State.fetch, hpc, hdecode]
  rw [step_execute hrunning hexecute, hfetch]

theorem step_request_of_inte_false {s : State} {v : BitVec 3} (hrunning : s.status = .running)
    (hrequest : s.env.presents = .request v) (hinte : s.inte = false) : step s = .next s.presented := by
  obtain ⟨-, hdropped⟩ := s.presented.deliver_spec v
  rw [step_request hrunning hrequest, hdropped (s.presented_inte.trans hinte)]

/-! ### NOP and DI -/

theorem exec_nop (s : State) : exec .nop s = .next (s.advance 1) := rfl

theorem State.setInte_frame (s : State) (b : Bool) : Frame s (s.setInte b) [.inte] [] := by
  refine ⟨fun p hp => ?_, fun _ _ => rfl⟩
  cases p with
  | inte => exact absurd (List.mem_singleton.2 rfl) hp
  | reg | sp | flag | status | env => rfl

theorem inte_of_exec_di {s t : State} (h : exec .di s = .next t) : t.inte = false := by
  rw [exec_di] at h
  injection h with h
  rw [← h]
  rfl

/-! ### The obligations -/

/-- Settles O53: after DI the core stands at INTE 0, where a request is dropped. -/
theorem nopAndDi : Obligations.NopAndDi := by
  unfold Obligations.NopAndDi
  intro s
  refine ⟨⟨rfl, _, exec_nop s, s.advance_jumped 1⟩, fun hs hzero => ?_,
    ⟨rfl, _, exec_di s, rfl, rfl, (s.setInte_frame false).advance 1⟩, fun t v hdi hrunning hrequest => ?_⟩
  · exact (step_of_noOperand (fun _ _ => rfl) hs hzero).trans (exec_nop s.presented)
  · exact step_request_of_inte_false hrunning hrequest (inte_of_exec_di hdi)

end Sys2Proof.Machine
end

section
/-! PROOFS. Stopping the core (spec 60 R400, R403): every instruction completes; HLT halts, one of the twelve faults,
and no other touches the status, nor does anything else a boundary presents but the quit. -/

namespace Sys2Proof.Machine

/-! ### The status after the operations that branch -/

@[simp] theorem State.jumpIf_status (s : State) (test : Cond) (target : Word) :
    (s.jumpIf test target).status = s.status := by
  unfold State.jumpIf
  split <;> rfl

@[simp] theorem State.callIf_status (s : State) (test : Cond) (target : Word) :
    (s.callIf test target).status = s.status := by
  unfold State.callIf
  split <;> rfl

@[simp] theorem State.returnIf_status (s : State) (test : Cond) : (s.returnIf test).status = s.status := by
  unfold State.returnIf
  split <;> rfl

@[simp] theorem State.ioReadState_status (s : State) (port : Byte) : (s.ioReadState port).status = s.status := by
  obtain ⟨-, -, -, h⟩ | ⟨-, -, h⟩ := s.ioRead_spec port <;> rw [h]

@[simp] theorem State.ioWrite_status (s : State) (port v : Byte) : (s.ioWrite port v).status = s.status := by
  rw [State.ioWrite_spec]

@[simp] theorem State.deliver_status (s : State) (v : BitVec 3) : (s.deliver v).status = s.status := by
  obtain ⟨hentered, hdropped⟩ := s.deliver_spec v
  cases hi : s.inte
  · rw [hdropped hi]
  · rw [hentered hi]
    rfl

/-! ### The status after an instruction -/

theorem exec_hlt (s : State) : exec .hlt s = .next ((s.advance 1).setStatus .halted) := rfl

/-- A documented instruction other than HLT completes and leaves the status alone (R403). -/
theorem exec_keeps_status {i : Instr} (hwf : i.WellFormed) (hhlt : i ≠ .hlt) (s : State) :
    ∃ t, exec i s = .next t ∧ t.status = s.status := by
  cases i
  case hlt => exact absurd rfl hhlt
  case unimplemented08 | unimplemented10 | unimplemented18 | unimplemented20 | unimplemented28 | unimplemented30
      | unimplemented38 | unimplementedCB | unimplementedD9 | unimplementedDD | unimplementedED | unimplementedFD =>
    exact absurd hwf Bool.false_ne_true
  case jnz | jz | jnc | jc | jpo | jpe | jp | jm => exact ⟨_, rfl, s.jumpIf_status _ _⟩
  case cnz | cz | cnc | cc | cpo | cpe | cp | cm => exact ⟨_, rfl, s.callIf_status _ _⟩
  case rnz | rz | rnc | rc | rpo | rpe | rp | rm => exact ⟨_, rfl, s.returnIf_status _⟩
  case inPort port => exact ⟨_, rfl, s.ioReadState_status port⟩
  case outPort port => exact ⟨_, rfl, s.ioWrite_status port s.regs.a⟩
  all_goals exact ⟨_, rfl, rfl⟩

/-- An instruction that is not documented raises the one exception, with its own opcode (R326, R400). -/
theorem exec_of_not_wellFormed {i : Instr} {op : Byte} (hwf : ¬ i.WellFormed) (hop : (encode i).head? = some op)
    (s : State) : exec i s = .next (s.raiseUnimplemented op) := by
  cases i
  case unimplemented08 | unimplemented10 | unimplemented18 | unimplemented20 | unimplemented28 | unimplemented30
      | unimplemented38 | unimplementedCB | unimplementedD9 | unimplementedDD | unimplementedED | unimplementedFD =>
    cases hop
    rfl
  all_goals exact absurd rfl hwf

/-! ### The instruction at PC -/

/-- The documented instructions are those whose opcode is none of the twelve bytes (R105). -/
theorem documented_eq_opcode_not_unimplemented (i : Instr) :
    i.documented = !(encode i).head?.any unimplementedBytes.contains := by
  cases i <;> rfl

theorem State.encode_fetch_head (s : State) : (encode s.fetch).head? = some (s.readByte s.pc) :=
  encode_decodeOpcode_head _ _ _

theorem State.fetch_wellFormed_iff (s : State) : s.fetch.WellFormed ↔ s.readByte s.pc ∉ unimplementedBytes := by
  rw [Instr.WellFormed, documented_eq_opcode_not_unimplemented, s.encode_fetch_head]
  simp

/-! ### The step -/

/-- At one of the twelve bytes an Execute step reports the byte and PC (R400). -/
theorem step_execute_unimplemented {s : State} (hs : s.AtBoundary) (hbyte : s.readByte s.pc ∈ unimplementedBytes) :
    step s = .next (s.presented.raiseUnimplemented (s.readByte s.pc)) := by
  obtain ⟨hrunning, hexecute⟩ := hs
  have hwf : ¬ s.fetch.WellFormed := fun h => s.fetch_wellFormed_iff.1 h hbyte
  rw [step_execute hrunning hexecute, exec_of_not_wellFormed hwf s.encode_fetch_head]

/-- What a boundary presents beside an Execute step and the quit leaves the status alone. -/
theorem State.perform_keeps_status {e : Event} (hexecute : e ≠ .execute) (hquit : e ≠ .quit) (s : State) :
    ∃ t, s.perform e = .next t ∧ t.status = s.status := by
  cases e with
  | execute => exact absurd rfl hexecute
  | quit => exact absurd rfl hquit
  | request v => exact ⟨_, rfl, s.deliver_status v⟩
  | writeIn1 | writeIn2 | render | iterate => exact ⟨_, rfl, rfl⟩

/-- Settles O8: an Execute step faults, halts or keeps the status by the instruction at PC; any other step keeps it. -/
theorem onlyHltAndUnimplementedStopTheCore : Obligations.OnlyHltAndUnimplementedStopTheCore := by
  unfold Obligations.OnlyHltAndUnimplementedStopTheCore
  intro s hrunning hquit
  by_cases hexecute : s.env.presents = .execute
  · by_cases hbyte : s.readByte s.pc ∈ unimplementedBytes
    · exact ⟨_, step_execute_unimplemented ⟨hrunning, hexecute⟩ hbyte, .inr (.inr ⟨rfl, hbyte⟩), fun _ _ => rfl⟩
    by_cases hhlt : s.fetch = .hlt
    · have hstep := step_execute hrunning hexecute
      rw [hhlt, exec_hlt] at hstep
      exact ⟨_, hstep, .inr (.inl ⟨rfl, hhlt⟩), fun _ h => absurd h hbyte⟩
    · obtain ⟨t, hexec, hstatus⟩ := exec_keeps_status (s.fetch_wellFormed_iff.2 hbyte) hhlt s.presented
      exact ⟨t, (step_execute hrunning hexecute).trans hexec, .inl (hstatus.trans hrunning), fun _ h => absurd h hbyte⟩
  · obtain ⟨t, hperform, hstatus⟩ := s.presented.perform_keeps_status hexecute hquit
    exact ⟨t, (step_running hrunning).trans hperform, .inl (hstatus.trans hrunning), fun h => absurd h hexecute⟩

end Sys2Proof.Machine
end

section
/-! PROOFS. Interrupt delivery (spec 60 R411): with INTE = 1 a delivery is a call of the vector that returns to PC and
clears INTE. -/

namespace Sys2Proof.Machine

theorem State.setEnv_frame (s : State) (e : Env) : Frame s (s.setEnv e) [.env] [] := by
  refine ⟨fun p hp => ?_, fun _ _ => rfl⟩
  cases p with
  | env => exact absurd (List.mem_singleton.2 rfl) hp
  | reg | sp | flag | inte | status => rfl

/-- Settles O58: `callTo` pushes PC and enters the vector; INTE is written after it, the environment before. -/
theorem deliveryEntersTheVector : Obligations.DeliveryEntersTheVector := by
  unfold Obligations.DeliveryEntersTheVector
  intro s v hrunning hrequest hinte
  obtain ⟨hentered, -⟩ := s.presented.deliver_spec v
  have hstep : step s = .next ((s.presented.callTo s.pc (vectorAddress v)).setInte false) :=
    (step_request hrunning hrequest).trans (congrArg _ (hentered hinte))
  obtain ⟨-, hsp, hhigh, hlow, hcall⟩ := s.presented.callTo_called s.pc (vectorAddress v)
  have hframe := ((s.setEnv_frame s.env.spent).trans hcall).trans (State.setInte_frame _ false)
  exact ⟨_, hstep, vectorAddress_toNat v, rfl, hsp, hhigh, hlow, rfl, hframe.mono (by decide) (List.Subset.refl _)⟩

end Sys2Proof.Machine
end

section
/-! PROOFS. Reset and the image (spec 70 R501, R502): loading writes one byte at a time to rising addresses, so an image
of at most 65,536 bytes never overwrites a byte of its own. -/

namespace Sys2Proof.Machine

/-- A start is the initial state of an image that fits the memory (R502). -/
theorem State.boot_eq_some_iff {p : InitParams} {image : List Byte} {s : State} :
    State.boot p image = some s ↔ image.length ≤ 65536 ∧ State.initial p image = s := by
  rw [State.boot, Option.ite_none_right_eq_some, Option.some.injEq, Config.memoryBytes]

/-- Past the address of an image's first byte, the offset into the image is one more than into its rest. -/
theorem toNat_sub_eq_succ_of_ne {x a : Word} (h : x ≠ a) : (x - a).toNat = (x - (a + 1)).toNat + 1 := by
  bv_omega

/-- After an image of at most 65,536 bytes is copied from `a` on, wrapping, address `x` holds the image's byte at offset
`x - a`; where the image has none it holds what it held. -/
theorem Memory.read_load (m : Memory) (a x : Word) {image : List Byte} (hfits : image.length ≤ 65536) :
    (m.load a image).read x = image.getD (x - a).toNat (m.read x) := by
  induction image generalizing m a with
  | nil => rfl
  | cons v image ih =>
    rw [List.length_cons] at hfits
    have hrest : (m.load a (v :: image)).read x = image.getD (x - (a + 1)).toNat (if x = a then v else m.read x) :=
      (ih (m.write a v) (a + 1) (by omega)).trans (by rw [Memory.read_write])
    rw [hrest]
    by_cases h : x = a
    · subst h
      -- The rest of the image ends before it comes round to its first byte.
      have hpast : image.length ≤ (x - (x + 1)).toNat := by bv_omega
      rw [if_pos rfl, List.getD_eq_getElem?_getD, List.getElem?_eq_none hpast, BitVec.sub_self]
      rfl
    · rw [if_neg h, toNat_sub_eq_succ_of_ne h, List.getD_cons_succ]

/-- Settles O14: memory at a start is the image loaded at address 0 over the empty list, which is canonical and reads 0. -/
theorem imageLoadedOverZeroMemory : Obligations.ImageLoadedOverZeroMemory := by
  unfold Obligations.ImageLoadedOverZeroMemory
  intro p image s hboot
  obtain ⟨hfits, rfl⟩ := State.boot_eq_some_iff.1 hboot
  refine ⟨Memory.wf_load Memory.wf_nil 0 image, fun a => ?_⟩
  have hread := Memory.read_load [] 0#16 a hfits
  rwa [BitVec.sub_zero, Memory.read_nil] at hread

end Sys2Proof.Machine
end

section
/-! PROOFS. The round trip of decoder and encoder (spec 30): both directions rest on one table each, the immediate read
back from an instruction's bytes, and the bytes of every entry of the opcode map. -/

namespace Sys2Proof

open Sys2Proof.Machine (hiByte loByte wordOf wordOf_hiByte_loByte hiByte_wordOf loByte_wordOf)

/-! ### Decoding what was encoded -/

/-- The opcode's entry of the map, with the operand bytes as immediates, is the instruction they came from. -/
theorem decodeOpcode_of_encode {i : Instr} {op : Byte} {operands : List Byte} (h : encode i = op :: operands)
    (rest : List Byte) :
    decodeOpcode op ((operands ++ rest).getD 0 0)
      (wordOf ((operands ++ rest).getD 1 0) ((operands ++ rest).getD 0 0)) = i := by
  cases i <;> cases h
  case lxiB | lxiD | lxiH | lxiSP | shld | lhld | sta | lda | jnz | jz | jnc | jc | jpo | jpe | jp | jm | jmp
      | cnz | cz | cnc | cc | cpo | cpe | cp | cm | call =>
    exact congrArg _ (wordOf_hiByte_loByte _)
  all_goals rfl

/-- A list that begins with an opcode and as many operand bytes as it fixes. -/
theorem decode_of_length {op : Byte} {operands : List Byte} (h : operands.length + 1 = opLength op)
    (rest : List Byte) :
    decode (op :: (operands ++ rest)) = .ok (decodeOpcode op ((operands ++ rest).getD 0 0)
      (wordOf ((operands ++ rest).getD 1 0) ((operands ++ rest).getD 0 0)), rest) := by
  have henough : ¬ (operands ++ rest).length + 1 < opLength op := by
    rw [List.length_append]
    omega
  have hdrop : (operands ++ rest).drop (opLength op - 1) = rest := by
    rw [← h, Nat.add_sub_cancel, List.drop_left]
  rw [decode, if_neg henough, hdrop]

theorem decode_encode (i : Instr) (rest : List Byte) : decode (encode i ++ rest) = .ok (i, rest) := by
  obtain ⟨op, operands, hbytes, hlength⟩ := encode_opcodeLength i
  rw [hbytes, List.cons_append, decode_of_length hlength, decodeOpcode_of_encode hbytes]

/-- Settles O1: an instruction's bytes have the length its opcode fixes, and its operand is read back from them. -/
theorem decodeInvertsEncode : Obligations.DecodeInvertsEncode := by
  unfold Obligations.DecodeInvertsEncode
  exact decode_encode

/-! ### Encoding what was decoded -/

/-- The operand bytes of an instruction of this length (R92, R93). -/
def operandBytes (length : Nat) (d8 : Byte) (d16 : Word) : List Byte :=
  match length with
  | 2 => [d8]
  | 3 => [loByte d16, hiByte d16]
  | _ => []

/-- What holds at each of sixteen places holds at all. -/
theorem forall_fin_sixteen {P : Fin 16 → Prop}
    (h : P 0 ∧ P 1 ∧ P 2 ∧ P 3 ∧ P 4 ∧ P 5 ∧ P 6 ∧ P 7 ∧ P 8 ∧ P 9 ∧ P 10 ∧ P 11 ∧ P 12 ∧ P 13 ∧ P 14 ∧ P 15) :
    ∀ k, P k := by
  obtain ⟨h0, h1, h2, h3, h4, h5, h6, h7, h8, h9, h10, h11, h12, h13, h14, h15⟩ := h
  exact fun
    | 0 => h0 | 1 => h1 | 2 => h2 | 3 => h3 | 4 => h4 | 5 => h5 | 6 => h6 | 7 => h7
    | 8 => h8 | 9 => h9 | 10 => h10 | 11 => h11 | 12 => h12 | 13 => h13 | 14 => h14 | 15 => h15
    | ⟨k + 16, hk⟩ => absurd hk (Nat.not_lt_of_le (Nat.le_add_left 16 k))

/-- The bytes of the instruction at row `r`, column `c` of the opcode map (R104). -/
theorem opcodeMap_encode (d8 : Byte) (d16 : Word) : ∀ r c : Fin 16,
    encode (opcodeMap d8 d16)[r][c] =
      BitVec.ofNat 8 (16 * r + c) :: operandBytes (opLength (BitVec.ofNat 8 (16 * r + c))) d8 d16 := by
  refine forall_fin_sixteen ⟨?_, ?_, ?_, ?_, ?_, ?_, ?_, ?_, ?_, ?_, ?_, ?_, ?_, ?_, ?_, ?_⟩ <;>
    exact forall_fin_sixteen ⟨rfl, rfl, rfl, rfl, rfl, rfl, rfl, rfl, rfl, rfl, rfl, rfl, rfl, rfl, rfl, rfl⟩

theorem encode_decodeOpcode (op d8 : Byte) (d16 : Word) :
    encode (decodeOpcode op d8 d16) = op :: operandBytes (opLength op) d8 d16 := by
  have hrow : op.toNat / 16 < 16 := by omega
  have hcol : op.toNat % 16 < 16 := by omega
  have hop : BitVec.ofNat 8 (16 * (op.toNat / 16) + op.toNat % 16) = op := by
    rw [Nat.div_add_mod, BitVec.ofNat_toNat, BitVec.setWidth_eq]
  have hentry := opcodeMap_encode d8 d16 ⟨_, hrow⟩ ⟨_, hcol⟩
  rwa [hop] at hentry

/-- A list long enough is the operand bytes read from it and what stands after them. -/
theorem operandBytes_append_drop {op : Byte} {tail : List Byte} (h : ¬ tail.length + 1 < opLength op) :
    operandBytes (opLength op) (tail.getD 0 0) (wordOf (tail.getD 1 0) (tail.getD 0 0)) ++
      tail.drop (opLength op - 1) = tail := by
  obtain hlength | hlength | hlength := opLength_cases op <;> rw [hlength] at h ⊢
  · rfl
  · match tail, h with
    | _ :: _, _ => rfl
  · match tail, h with
    | [_], h => exact absurd (Nat.lt_succ_self 2) h
    | lo :: hi :: rest, _ =>
      change loByte (wordOf hi lo) :: hiByte (wordOf hi lo) :: rest = lo :: hi :: rest
      rw [loByte_wordOf, hiByte_wordOf]

/-- Settles O2: the entry at an opcode is encoded by it and by the immediates it was given. -/
theorem encodeInvertsDecode : Obligations.EncodeInvertsDecode := by
  unfold Obligations.EncodeInvertsDecode
  intro bytes i rest h
  cases bytes with
  | nil => cases h
  | cons op tail =>
    rw [decode] at h
    split at h
    · cases h
    · next henough =>
      cases h
      rw [encode_decodeOpcode, List.cons_append, operandBytes_append_drop henough]

/-- Settles O5: each word is the encoding of its instruction; one operand byte is too few for a JMP. -/
theorem specWordsDecode : Obligations.SpecWordsDecode := by
  unfold Obligations.SpecWordsDecode
  exact ⟨decode_encode .movCB [], decode_encode (.mviM 0xED) [], decode_encode (.lxiH 0x1234) [],
    decode_encode .dcxD [], decode_encode .sbbM [], decode_encode (.cpi 0x40) [], decode_encode .rar [],
    decode_encode .pushPSW [], decode_encode (.cpe 0x0300) [], decode_encode .rm [], decode_encode .rst5 [],
    decode_encode (.inPort 0x03) [], decode_encode .unimplementedED [], rfl⟩

/-! ### The twelve unimplemented bytes (R105) -/

/-- The documented instructions are those whose opcode is none of the twelve bytes. -/
theorem not_wellFormed_iff_opcode {i : Instr} {op : Byte} (hop : (encode i).head? = some op) :
    ¬ i.WellFormed ↔ op ∈ unimplementedBytes := by
  rw [Instr.WellFormed, Machine.documented_eq_opcode_not_unimplemented, hop]
  simp

/-- The twelve instructions that are not documented, each with its byte. -/
def unimplementedRows : List (Instr × Byte) :=
  [(.unimplemented08, 0x08), (.unimplemented10, 0x10), (.unimplemented18, 0x18), (.unimplemented20, 0x20),
   (.unimplemented28, 0x28), (.unimplemented30, 0x30), (.unimplemented38, 0x38), (.unimplementedCB, 0xCB),
   (.unimplementedD9, 0xD9), (.unimplementedDD, 0xDD), (.unimplementedED, 0xED), (.unimplementedFD, 0xFD)]

theorem unimplementedRows_spec : ∀ x ∈ unimplementedRows, encode x.1 = [x.2] ∧ ¬ x.1.WellFormed := by decide

/-- Settles O4: an instruction is told from its opcode, and the twelve raise the one exception. -/
theorem twelveUnimplementedBytesFault : Obligations.TwelveUnimplementedBytesFault := by
  unfold Obligations.TwelveUnimplementedBytesFault
  constructor
  · intro op b1 b2 rest i r h
    rw [decode_of_two_operands] at h
    cases h
    exact not_wellFormed_iff_opcode (encode_decodeOpcode_head _ _ _)
  · intro s x hx
    obtain ⟨hbytes, hwf⟩ := unimplementedRows_spec x hx
    exact ⟨hbytes, Machine.exec_of_not_wellFormed hwf (by rw [hbytes]; rfl) s⟩

end Sys2Proof
end

section
/-! PROOFS. The step (spec 60 sections 1 and 2, 70 section 1): what a boundary presents, case by case, and the
instruction at PC, which is what the fetched bytes decode to and what was placed there. -/

namespace Sys2Proof.Machine

/-! ### What the environment presents, and what that spends (60 R405; log 6) -/

theorem Env.presents_listed {e : Env} {x : Event} {xs : List Event} (h : e.events = x :: xs) :
    e.presents = x ∧ e.spent = { e with events := xs } := by
  simp only [Env.presents, Env.spent, h, and_self]

theorem Env.presents_execute {e : Env} (hevents : e.events = []) (hlater : e.later = .execute) :
    e.presents = .execute ∧ e.spent = e := by
  simp only [Env.presents, Env.spent, hevents, hlater, and_self]

theorem Env.presents_requests {e : Env} {n : Nat} (hevents : e.events = []) (hlater : e.later = .requests n) :
    e.presents = .ofRequest (Config.irq e) ∧ e.spent = { e with later := .requests (n + 1) } := by
  simp only [Env.presents, Env.spent, hevents, hlater, and_self]

theorem Env.presents_loop {e : Env} {n : Nat} (hevents : e.events = []) (hlater : e.later = .loop n) :
    e.presents = .iterate (Config.hostSample e) ∧ e.spent = { e with later := .loop (n + 1) } := by
  simp only [Env.presents, Env.spent, hevents, hlater, and_self]

/-- Settles O57: the listed events come first, then the schedule. -/
theorem whatTheEnvironmentPresents : Obligations.WhatTheEnvironmentPresents := by
  unfold Obligations.WhatTheEnvironmentPresents
  intro s
  refine ⟨fun e es hevents => ?_, fun hevents hlater => ?_, fun n hevents hlater => ?_, fun n hevents hlater => ?_⟩
  · obtain ⟨hpresents, hspent⟩ := Env.presents_listed hevents
    exact ⟨hpresents, congrArg s.setEnv hspent⟩
  · obtain ⟨hpresents, hspent⟩ := Env.presents_execute hevents hlater
    exact ⟨hpresents, congrArg s.setEnv hspent⟩
  · obtain ⟨hpresents, hspent⟩ := Env.presents_requests hevents hlater
    refine ⟨hpresents.trans ?_, congrArg s.setEnv hspent⟩
    cases Config.irq s.env <;> rfl
  · obtain ⟨hpresents, hspent⟩ := Env.presents_loop hevents hlater
    exact ⟨hpresents, congrArg s.setEnv hspent⟩

/-! ### The instruction at PC -/

theorem State.length_fetchBytes (s : State) : s.fetchBytes.length = opLength (s.readByte s.pc) := by
  rw [State.fetchBytes, List.length_map, List.length_range]

/-- The fetched bytes decode to the instruction at PC, with nothing left over (30 R99, R107). -/
theorem decode_fetchBytes (s : State) : decode s.fetchBytes = .ok (s.fetch, []) := by
  have hlength := s.length_fetchBytes
  have hpos : 0 < opLength (s.readByte s.pc) := by have := opLength_cases (s.readByte s.pc); omega
  have hopcode : s.fetchBytes.getD 0 0 = s.readByte s.pc := by
    rw [State.getD_fetchBytes hpos, BitVec.add_zero]
  rw [State.fetch]
  cases hbytes : s.fetchBytes with
  | nil => rw [hbytes, List.length_nil] at hlength; omega
  | cons op operands =>
    rw [hbytes, List.getD_cons_zero] at hopcode
    rw [hbytes, List.length_cons, ← hopcode] at hlength
    have hdecode := decode_of_length hlength []
    rw [List.append_nil] at hdecode
    rw [hdecode, hopcode]
    rfl

/-- Memory holds the bytes of an instruction from PC on, each address wrapping (20 R64, 10 R35). -/
def State.HoldsAtPc (s : State) (i : Instr) : Prop :=
  ∀ (k : Nat) (h : k < (encode i).length), s.readByte (s.pc + BitVec.ofNat 16 k) = (encode i)[k]

theorem State.HoldsAtPc.fetchBytes_eq {s : State} {i : Instr} (h : s.HoldsAtPc i) : s.fetchBytes = encode i := by
  have hpos : 0 < (encode i).length := by have := encode_length_cases i; omega
  have hopcode : (encode i).head? = some (s.readByte s.pc) := by
    rw [List.head?_eq_getElem?, List.getElem?_eq_getElem hpos, ← h 0 hpos, BitVec.add_zero]
  refine List.ext_getElem (s.length_fetchBytes.trans (encode_length_eq_opLength hopcode).symm) fun k hk hk' => ?_
  rw [← h k hk']
  simp only [State.fetchBytes, List.getElem_map, List.getElem_range]

/-- What stands at PC is what is fetched. -/
theorem State.HoldsAtPc.fetch_eq {s : State} {i : Instr} (h : s.HoldsAtPc i) : s.fetch = i := by
  have hdecode := decode_encode i []
  rw [List.append_nil, ← h.fetchBytes_eq, decode_fetchBytes] at hdecode
  injection hdecode with hpair
  exact congrArg Prod.fst hpair

/-- Settles O7: what stands at PC is fetched, and an Execute step runs it. -/
theorem stepRunsInstructionPlacedInMemory : Obligations.StepRunsInstructionPlacedInMemory := by
  unfold Obligations.StepRunsInstructionPlacedInMemory
  intro s i hs (hplaced : s.HoldsAtPc i)
  obtain ⟨hrunning, hexecute⟩ := hs
  rw [step_execute hrunning hexecute, hplaced.fetch_eq]

/-- Settles O6: what the fetched bytes decode to is the instruction at PC. -/
theorem stepRunsDecodedInstruction : Obligations.StepRunsDecodedInstruction := by
  unfold Obligations.StepRunsDecodedInstruction
  intro s i hrunning hdecode
  rw [decode_fetchBytes] at hdecode
  injection hdecode with hpair
  have hfetch : s.fetch = i := congrArg Prod.fst hpair
  constructor
  · intro hexecute
    rw [step_execute hrunning hexecute, hfetch]
  · intro hevents hlater
    obtain ⟨hexecute, hspent⟩ := Env.presents_execute hevents hlater
    have hpresented : s.presented = s := congrArg s.setEnv hspent
    rw [step_execute hrunning hexecute, hfetch, hpresented]

/-! ### Where no step is, and the start of a run -/

theorem step_halted {s : State} (h : s.status = .halted) : step s = .fault .halted := by
  rw [step, h]

theorem step_faulted {s : State} {op : Byte} {pc : Word} (h : s.status = .faulted op pc) :
    step s = .fault (.unimplementedOpcode op pc) := by
  rw [step, h]

/-- Settles O9: the step looks at the status before anything else. -/
theorem terminalStatusesHaveNoStep : Obligations.TerminalStatusesHaveNoStep := by
  unfold Obligations.TerminalStatusesHaveNoStep
  exact fun s => ⟨step_halted, fun op pc => step_faulted⟩

/-- Settles O15: a start is the initial state of an image that fits, and reset is the named one. -/
theorem startOfARun : Obligations.StartOfARun := by
  unfold Obligations.StartOfARun
  refine ⟨fun p image => ⟨fun hlong => ?_, fun hfits => ?_⟩, rfl⟩
  · exact if_neg (Nat.not_le.2 hlong)
  · exact ⟨_, State.boot_eq_some_iff.2 ⟨hfits, rfl⟩, rfl, rfl, rfl, rfl, rfl, rfl⟩

/-- An image that begins with the bytes of an instruction puts them at PC, which is 0. -/
theorem State.boot_holdsAtPc {p : InitParams} {i : Instr} {rest : List Byte} {s : State}
    (h : State.boot p (encode i ++ rest) = some s) : s.HoldsAtPc i := by
  intro k hk
  obtain ⟨-, hread⟩ := imageLoadedOverZeroMemory p _ s h
  obtain ⟨-, rfl⟩ := State.boot_eq_some_iff.1 h
  have hsmall : k < 65536 := by have := encode_length_cases i; omega
  have haddr : (0#16 + BitVec.ofNat 16 k).toNat = k := by
    rw [BitVec.zero_add, BitVec.toNat_ofNat, Nat.mod_eq_of_lt hsmall]
  refine (hread _).trans ?_
  rw [show (State.initial p (encode i ++ rest)).pc = 0#16 from rfl, haddr, List.getD_eq_getElem?_getD,
    List.getElem?_append_left hk, List.getElem?_eq_getElem hk, Option.getD_some]

/-- Settles O16: a start stands at PC 0 with INTE 0, so a request is dropped and the image's first instruction is the
one at PC. -/
theorem firstStepExecutesAtZero : Obligations.FirstStepExecutesAtZero := by
  unfold Obligations.FirstStepExecutesAtZero
  intro p image s hboot
  obtain ⟨-, hinitial⟩ := State.boot_eq_some_iff.1 hboot
  have hrunning : s.status = .running := by rw [← hinitial]; rfl
  have hinte : s.inte = false := by rw [← hinitial]; rfl
  constructor
  · intro v hrequest
    exact step_request_of_inte_false hrunning hrequest hinte
  · rintro hexecute i rest rfl
    rw [step_execute hrunning hexecute, (State.boot_holdsAtPc hboot).fetch_eq]

end Sys2Proof.Machine
end

section
/-! PROOFS. What every instruction keeps: memory canonical and the renderer's record (the invariant), and the flags not
listed as its own (10 R36). Where no operation branches or stores, both sides are the same record update. -/

namespace Sys2Proof.Machine

/-! ### The operations that branch or store -/

theorem State.jumpIf_keeps (s : State) (test : Cond) (target : Word) :
    s.jumpIf test target = s.setPc (s.jumpIf test target).pc := by
  unfold State.jumpIf
  split <;> rfl

@[simp] theorem State.returnIf_mem (s : State) (test : Cond) : (s.returnIf test).mem = s.mem := by
  unfold State.returnIf
  split <;> rfl

@[simp] theorem State.returnIf_env (s : State) (test : Cond) : (s.returnIf test).env = s.env := by
  unfold State.returnIf
  split <;> rfl

@[simp] theorem State.returnIf_flags (s : State) (test : Cond) : (s.returnIf test).flags = s.flags := by
  unfold State.returnIf
  split <;> rfl

@[simp] theorem State.callIf_env (s : State) (test : Cond) (target : Word) : (s.callIf test target).env = s.env := by
  unfold State.callIf
  split <;> rfl

@[simp] theorem State.callIf_flags (s : State) (test : Cond) (target : Word) :
    (s.callIf test target).flags = s.flags := by
  unfold State.callIf
  split <;> rfl

theorem State.callIf_wf {s : State} (h : s.mem.wf = true) (test : Cond) (target : Word) :
    (s.callIf test target).mem.wf = true := by
  unfold State.callIf
  split
  · exact State.push16_wf h (s.pc + 3)
  · exact h

/-- IN changes nothing of the environment but the count of draws. -/
theorem State.ioReadState_eq (s : State) (port : Byte) :
    s.ioReadState port = s.setEnv { s.env with draws := (s.ioReadState port).env.draws } := by
  obtain ⟨-, -, -, h⟩ | ⟨-, -, h⟩ := s.ioRead_spec port <;> rw [h] <;> rfl

@[simp] theorem State.ioWrite_mem (s : State) (port v : Byte) : (s.ioWrite port v).mem = s.mem := by
  rw [State.ioWrite_spec]

@[simp] theorem State.ioWrite_flags (s : State) (port v : Byte) : (s.ioWrite port v).flags = s.flags := by
  rw [State.ioWrite_spec]

@[simp] theorem State.ioWrite_rendered (s : State) (port v : Byte) :
    (s.ioWrite port v).env.rendered = s.env.rendered := by
  unfold State.ioWrite
  cases s.env.bridge <;> rfl

/-! ### The invariant -/

/-- Memory is canonical, and so is the memory last rendered: the part of the invariant that is not about the status. -/
structure State.Canonical (s : State) : Prop where
  mem : s.mem.wf = true
  rendered : ∀ m, s.env.rendered = some m → m.wf = true

theorem State.Canonical.of_wf {s t : State} (hs : s.Canonical) (hmem : t.mem.wf = true)
    (hrendered : t.env.rendered = s.env.rendered) : t.Canonical :=
  ⟨hmem, fun m hm => hs.rendered m (hrendered ▸ hm)⟩

/-- Every instruction keeps memory canonical: those that store do so through `Memory.write`. -/
theorem exec_keeps_canonical (i : Instr) {s t : State} (hs : s.Canonical) (h : exec i s = .next t) : t.Canonical := by
  have hmem := hs.mem
  have hbyte : ∀ a v, (s.mem.write a v).wf = true := Memory.wf_write hmem
  have hpush : ∀ v, (s.push16 v).mem.wf = true := State.push16_wf hmem
  have hword : ∀ a v, (s.writeWord a v).mem.wf = true := State.writeWord_wf hmem
  cases i <;> injection h with h <;> subst h
  case staxB | staxD | sta | movMB | movMC | movMD | movME | movMH | movML | movMA | mviM | inrM | dcrM =>
    exact hs.of_wf (hbyte _ _) rfl
  case pushB | pushD | pushH | pushPSW | call | rst0 | rst1 | rst2 | rst3 | rst4 | rst5 | rst6 | rst7 =>
    exact hs.of_wf (hpush _) rfl
  case shld | xthl => exact hs.of_wf (hword _ _) rfl
  case jnz | jz | jnc | jc | jpo | jpe | jp | jm =>
    rw [State.jumpIf_keeps]
    exact hs.of_wf hmem rfl
  case cnz | cz | cnc | cc | cpo | cpe | cp | cm =>
    exact hs.of_wf (State.callIf_wf hmem _ _) (congrArg Env.rendered (s.callIf_env _ _))
  case rnz | rz | rnc | rc | rpo | rpe | rp | rm =>
    exact hs.of_wf ((congrArg _ (s.returnIf_mem _)).trans hmem) (congrArg Env.rendered (s.returnIf_env _))
  case inPort port =>
    rw [State.ioReadState_eq]
    exact hs.of_wf hmem rfl
  case outPort port =>
    exact hs.of_wf ((congrArg _ (s.ioWrite_mem port _)).trans hmem) (s.ioWrite_rendered port _)
  all_goals exact hs.of_wf hmem rfl

/-- A Faulted core stands on the unimplemented byte it reports, at PC (60 R400). -/
def State.Truthful (s : State) : Prop :=
  ∀ op pc, s.status = .faulted op pc → op ∈ unimplementedBytes ∧ pc = s.pc ∧ s.readByte pc = op

theorem State.truthful_of_running {s : State} (h : s.status = .running) : s.Truthful := by
  intro op pc hfaulted
  rw [h] at hfaulted
  cases hfaulted

theorem State.inv_iff (s : State) : s.Inv ↔ s.Canonical ∧ s.Truthful :=
  ⟨fun ⟨hmem, hlast, hstatus⟩ => ⟨⟨hmem, hlast⟩, hstatus⟩, fun ⟨hs, hstatus⟩ => ⟨hs.mem, hs.rendered, hstatus⟩⟩

/-- The instruction at PC leaves a truthful status: only one of the twelve sets Faulted, and it moves neither PC nor
memory. -/
theorem truthful_of_exec_fetch {s t : State} (hrunning : s.status = .running)
    (h : exec s.fetch s = .next t) : t.Truthful := by
  by_cases hbyte : s.readByte s.pc ∈ unimplementedBytes
  · rw [exec_of_not_wellFormed (fun hwf => s.fetch_wellFormed_iff.1 hwf hbyte) s.encode_fetch_head] at h
    injection h with h
    subst h
    intro op pc hfaulted
    cases hfaulted
    exact ⟨hbyte, rfl, rfl⟩
  by_cases hhlt : s.fetch = .hlt
  · rw [hhlt, exec_hlt] at h
    injection h with h
    subst h
    intro op pc hfaulted
    cases hfaulted
  · obtain ⟨u, hexec, hstatus⟩ := exec_keeps_status (s.fetch_wellFormed_iff.2 hbyte) hhlt s
    rw [hexec] at h
    injection h with h
    subst h
    exact State.truthful_of_running (hstatus.trans hrunning)

theorem State.presented_canonical {s : State} (hs : s.Canonical) : s.presented.Canonical :=
  hs.of_wf hs.mem s.env.spent_rendered

theorem State.deliver_canonical {s : State} (hs : s.Canonical) (v : BitVec 3) : (s.deliver v).Canonical := by
  obtain ⟨hentered, hdropped⟩ := s.deliver_spec v
  cases hinte : s.inte
  · rw [hdropped hinte]
    exact hs
  · rw [hentered hinte]
    exact hs.of_wf (State.push16_wf hs.mem s.pc) rfl

/-- Settles O10: a step is of a running core, and executes an instruction, delivers a request or changes the environment
alone, which records the memory of the state at most. -/
theorem stepKeepsInvariant : Obligations.StepKeepsInvariant := by
  unfold Obligations.StepKeepsInvariant
  intro s t hinv hstep
  rw [State.inv_iff] at hinv ⊢
  obtain ⟨hs, -⟩ := hinv
  obtain ⟨hrunning, ⟨-, hexec⟩ | ⟨v, -, rfl⟩ | ⟨ht, hrendered⟩⟩ := step_cases hstep
  · exact ⟨exec_keeps_canonical _ (State.presented_canonical hs) hexec,
      truthful_of_exec_fetch (s := s.presented) hrunning hexec⟩
  · exact ⟨State.deliver_canonical (State.presented_canonical hs) v,
      State.truthful_of_running ((s.presented.deliver_status v).trans hrunning)⟩
  · have hmem : t.mem = s.mem := by rw [ht]
    refine ⟨⟨hmem ▸ hs.mem, fun m hm => ?_⟩, State.truthful_of_running ((congrArg State.status ht).trans hrunning)⟩
    obtain hkept | hread := hrendered
    · exact hs.rendered m (hkept ▸ hm)
    · obtain rfl : s.mem = m := Option.some.inj (hread.symm.trans hm)
      exact hs.mem

/-- Settles O11: reset has the empty memory, nothing rendered, and runs. -/
theorem resetHasInvariant : Obligations.ResetHasInvariant := by
  unfold Obligations.ResetHasInvariant
  refine (State.inv_iff _).2 ⟨⟨Memory.wf_reset, fun m hm => ?_⟩, State.truthful_of_running rfl⟩
  cases hm

/-! ### The flags an instruction writes (10 R36) -/

theorem State.flag_of_setCarry {s t : State} (h : t.flags = { s.flags with cy := t.flags.cy }) {g : Flag}
    (hg : g ∉ [Flag.cy]) : t.flag g = s.flag g := by
  rw [State.flag, h]
  cases g with
  | cy => exact absurd (by decide) hg
  | z | s | p | ac => rfl

theorem State.flag_of_keeping_cy {s t : State} (hcy : t.flags.cy = s.flags.cy) {g : Flag}
    (hg : g ∉ [Flag.z, .s, .p, .ac]) : t.flag g = s.flag g := by
  cases g with
  | cy => exact hcy
  | z | s | p | ac => exact absurd (by decide) hg

theorem Flag.mem_all (g : Flag) : g ∈ [Flag.z, .s, .p, .cy, .ac] := by cases g <;> decide

/-- An instruction leaves a flag alone that is not listed for it. -/
theorem exec_keeps_flag (i : Instr) {s t : State} {f : Flag} (h : exec i s = .next t) (hf : f ∉ flagsWritten i) :
    t.flag f = s.flag f := by
  have hflags : t.flags = s.flags → t.flag f = s.flag f := congrArg (Flags.get · f)
  cases i <;> injection h with h <;> subst h
  case rlc | rrc | ral | rar | dadB | dadD | dadH | dadSP | stc | cmc =>
    refine State.flag_of_setCarry ?_ hf
    rfl
  case inrB | inrC | inrD | inrE | inrH | inrL | inrA | inrM | dcrB | dcrC | dcrD | dcrE | dcrH | dcrL | dcrA | dcrM =>
    refine State.flag_of_keeping_cy ?_ hf
    rfl
  case jnz | jz | jnc | jc | jpo | jpe | jp | jm =>
    rw [State.jumpIf_keeps]
    rfl
  case cnz | cz | cnc | cc | cpo | cpe | cp | cm => exact hflags (s.callIf_flags _ _)
  case rnz | rz | rnc | rc | rpo | rpe | rp | rm => exact hflags (s.returnIf_flags _)
  case inPort port =>
    rw [State.ioReadState_eq]
    rfl
  case outPort port => exact hflags (s.ioWrite_flags port _)
  case daa | adi | aci | sui | sbi | ani | xri | ori | cpi | popPSW
      | addB | addC | addD | addE | addH | addL | addM | addA | adcB | adcC | adcD | adcE | adcH | adcL | adcM | adcA
      | subB | subC | subD | subE | subH | subL | subM | subA | sbbB | sbbC | sbbD | sbbE | sbbH | sbbL | sbbM | sbbA
      | anaB | anaC | anaD | anaE | anaH | anaL | anaM | anaA | xraB | xraC | xraD | xraE | xraH | xraL | xraM | xraA
      | oraB | oraC | oraD | oraE | oraH | oraL | oraM | oraA | cmpB | cmpC | cmpD | cmpE | cmpH | cmpL | cmpM | cmpA =>
    exact absurd f.mem_all hf
  all_goals rfl

/-- Settles O13: every instruction, by the flags listed for it. -/
theorem flagsWrittenOnlyByListedInstructions : Obligations.FlagsWrittenOnlyByListedInstructions := by
  unfold Obligations.FlagsWrittenOnlyByListedInstructions
  exact fun i s t f => exec_keeps_flag i

end Sys2Proof.Machine
end

section
/-! PROOFS. 16-bit accesses (spec 20 R63, R68; 40 R130, R131), the logical group (42 R201 to R209), PSW on the stack (43
R252 to R257) and the round trips of the stack (95 E2, E3): what was stored is read back, at addresses that differ. -/

namespace Sys2Proof.Machine

/-! ### 16-bit accesses to memory -/

theorem State.readWord_writeWord (s : State) (a v : Word) : (s.writeWord a v).readWord a = v := by
  rw [State.readWord, s.readByte_writeWord_high, s.readByte_writeWord_low, wordOf_hiByte_loByte]

/-- Two byte stores are one 16-bit store. -/
theorem State.writeWord_wordOf (s : State) (a : Word) (h l : Byte) :
    s.writeWord a (wordOf h l) = (s.writeByte a l).writeByte (a + 1) h := by
  rw [State.writeWord, loByte_wordOf, hiByte_wordOf]

/-- Settles O17: the two addresses of an access differ, even where they wrap. -/
theorem wordAccessesAreTwoByteAccesses : Obligations.WordAccessesAreTwoByteAccesses := by
  unfold Obligations.WordAccessesAreTwoByteAccesses
  intro s a v
  refine ⟨(s.readByte_writeWord_low a v).trans (loByte_eq v), (s.readByte_writeWord_high a v).trans (hiByte_eq v),
    s.readWord_writeWord a v, fun l h => ?_, fun x hlow hhigh => ?_⟩
  · rw [← s.writeWord_wordOf, s.readWord_writeWord]
    rfl
  · obtain ⟨hread, -⟩ := s.writeWord_spec a v
    rw [hread, if_neg hhigh, if_neg hlow]

/-- Settles O24: LHLD writes the pair with a 16-bit load, SHLD stores the pair. -/
theorem loadAndStoreHl : Obligations.LoadAndStoreHl := by
  unfold Obligations.LoadAndStoreHl
  intro s lo hi
  have hlow := (s.readByte_writeWord_low (hi ++ lo) (s.getPair .hl)).trans (loByte_wordOf s.regs.h s.regs.l)
  have hhigh := (s.readByte_writeWord_high (hi ++ lo) (s.getPair .hl)).trans (hiByte_wordOf s.regs.h s.regs.l)
  exact ⟨⟨bytes_of_imm16 0x2A lo hi, _, rfl, loByte_wordOf _ _, hiByte_wordOf _ _, rfl,
      (s.setPair_frame .hl (s.readWord (hi ++ lo))).advance 3⟩,
    bytes_of_imm16 0x22 lo hi, _, rfl, hlow, hhigh, rfl, (s.writeWord_frame (hi ++ lo) (s.getPair .hl)).advance 3⟩

/-! ### The logical group: A takes a result bit by bit -/

theorem encode_ana (x : Src) : encode (Forms.ana x) = aluBytes 0b100 x := by
  obtain ⟨⟨⟩⟩ | _ | _ := x <;> rfl

theorem exec_ana (x : Src) (s : State) : exec (Forms.ana x) s = .next (s.ana x) := by
  obtain ⟨⟨⟩⟩ | _ | _ := x <;> rfl

theorem encode_xra (x : Src) : encode (Forms.xra x) = aluBytes 0b101 x := by
  obtain ⟨⟨⟩⟩ | _ | _ := x <;> rfl

theorem exec_xra (x : Src) (s : State) : exec (Forms.xra x) s = .next (s.xra x) := by
  obtain ⟨⟨⟩⟩ | _ | _ := x <;> rfl

theorem encode_ora (x : Src) : encode (Forms.ora x) = aluBytes 0b110 x := by
  obtain ⟨⟨⟩⟩ | _ | _ := x <;> rfl

theorem exec_ora (x : Src) (s : State) : exec (Forms.ora x) s = .next (s.ora x) := by
  obtain ⟨⟨⟩⟩ | _ | _ := x <;> rfl

/-- ANA, XRA and ORA: `op` is what is done to each pair of bits of A and the operand. -/
theorem completes_of_bitwise {i : Instr} {s : State} {res : AluResult} {n : Word} {b : Byte} {op : Bool → Bool → Bool}
    (h : exec i s = .next (s.accumulate res n))
    (hbits : ∀ k, res.value.getLsbD k = op (s.regs.a.getLsbD k) (b.getLsbD k)) :
    Completes i s fun t => (∀ k, t.regs.a.getLsbD k = op (s.regs.a.getLsbD k) (b.getLsbD k)) ∧ t.ZspOf t.regs.a ∧
      t.flags.cy = res.cy ∧ t.flags.ac = res.ac ∧ t.pc = s.pc + n ∧ Frame s t (.reg .a :: allFlags) [] := by
  obtain ⟨ha, hzsp, hcy, hac, hpc⟩ := s.accumulate_spec res n
  exact ⟨_, h, by rwa [ha], by rwa [ha], hcy, hac, hpc, s.accumulate_frame res n⟩

/-- Settles O34: the AND of two bytes, bit by bit. -/
theorem anaAndsIntoA : Obligations.AnaAndsIntoA := by
  unfold Obligations.AnaAndsIntoA
  exact fun s x => ⟨encode_ana x, completes_of_bitwise (exec_ana x s) fun _ => BitVec.getLsbD_and⟩

/-- Settles O35: the exclusive OR of two bytes, bit by bit. -/
theorem xraXorsIntoA : Obligations.XraXorsIntoA := by
  unfold Obligations.XraXorsIntoA
  exact fun s x => ⟨encode_xra x, completes_of_bitwise (exec_xra x s) fun _ => BitVec.getLsbD_xor⟩

/-- Settles O36: the OR of two bytes, bit by bit. -/
theorem oraOrsIntoA : Obligations.OraOrsIntoA := by
  unfold Obligations.OraOrsIntoA
  exact fun s x => ⟨encode_ora x, completes_of_bitwise (exec_ora x s) fun _ => BitVec.getLsbD_or⟩

/-! ### PSW on the stack -/

/-- The packed flag byte as a number (R252): bit 1 is 1, bits 5 and 3 are 0. -/
theorem Flags.toNat_pack (f : Flags) :
    f.pack.toNat = 128 * f.s.toNat + 64 * f.z.toNat + 16 * f.ac.toNat + 4 * f.p.toNat + 2 + f.cy.toNat := by
  obtain ⟨z, s, p, cy, ac⟩ := f
  revert z s p cy ac
  decide

theorem exec_pushPSW (s : State) : exec .pushPSW s = .next ((s.push16 (wordOf s.regs.a s.flags.pack)).advance 1) := rfl

theorem exec_popPSW (s : State) : exec .popPSW s =
    .next (((s.popStack.setReg .a (hiByte s.popValue)).setFlags (.unpack (loByte s.popValue))).advance 1) := rfl

/-- Settles O44: PUSH PSW pushes A above the packed flags; POP PSW writes SP, A and the flags. -/
theorem pushAndPopPsw : Obligations.PushAndPopPsw := by
  unfold Obligations.PushAndPopPsw
  intro s
  have hhigh := (s.readByte_push16_high (wordOf s.regs.a s.flags.pack)).trans (hiByte_wordOf _ _)
  have hlow := (s.readByte_push16_low (wordOf s.regs.a s.flags.pack)).trans (loByte_wordOf _ _)
  have hflags : Flags.unpack (loByte s.popValue) = Flags.unpack (s.readByte s.sp) :=
    congrArg Flags.unpack (loByte_wordOf _ _)
  have hframe := ((s.setSp_frame (s.sp + 2)).trans (State.setReg_frame _ .a (hiByte s.popValue))).trans
    (State.setFlags_frame_allFlags _ (.unpack (loByte s.popValue)))
  refine ⟨⟨rfl, _, exec_pushPSW s, hhigh, (congrArg BitVec.toNat hlow).trans s.flags.toNat_pack, rfl, rfl,
    (s.push16_frame _).advance 1⟩, rfl, _, exec_popPSW s, hiByte_wordOf _ _, ?_, ?_, ?_, ?_, ?_, rfl, rfl,
    hframe.advance 1⟩
  · exact congrArg Flags.s hflags
  · exact congrArg Flags.z hflags
  · exact congrArg Flags.ac hflags
  · exact congrArg Flags.p hflags
  · exact congrArg Flags.cy hflags

/-! ### Round trips -/

/-- A pair of registers written with its own value is as before. -/
theorem State.setPair_regs_of_value {s t : State} {rp : Pair} (hrp : rp ≠ .sp) (hregs : t.regs = s.regs) :
    (t.setPair rp (s.getPair rp)).regs = s.regs ∧ (t.setPair rp (s.getPair rp)).sp = t.sp := by
  cases rp with
  | bc | de | hl => simp [State.getPair, hregs]
  | sp => exact absurd rfl hrp

/-- `t` is `s` with PC two on and memory aside. -/
def Restored (s t : State) : Prop :=
  t.regs = s.regs ∧ t.sp = s.sp ∧ t.flags = s.flags ∧ t.inte = s.inte ∧ t.pc = s.pc + 2

theorem State.pop_push_restored (s : State) {rp : Pair} (hrp : rp ≠ .sp) : Restored s ((s.push rp).pop rp) := by
  have hvalue : (s.push rp).popValue = s.getPair rp := s.popValue_push16 (s.getPair rp)
  obtain ⟨hregs, hsp⟩ := State.setPair_regs_of_value (s := s) (t := (s.push rp).popStack) hrp rfl
  rw [← hvalue] at hregs hsp
  refine ⟨hregs, hsp.trans (s.popStack_push16_sp (s.getPair rp)), State.setPair_flags _ rp _,
    State.setPair_inte _ rp _, ?_⟩
  exact (congrArg (· + 1) (State.setPair_pc _ rp _)).trans (BitVec.add_assoc s.pc 1 1)

/-- PUSH PSW then POP PSW: A and the flags are what the popped value says, which is what was pushed. -/
theorem exec_popPSW_after_pushPSW (s : State) :
    ∃ t, execAll [.pushPSW, .popPSW] s = .next t ∧ Restored s t := by
  have hvalue := s.popValue_push16 (wordOf s.regs.a s.flags.pack)
  refine ⟨_, rfl, ?_, s.popStack_push16_sp (wordOf s.regs.a s.flags.pack), ?_, rfl, BitVec.add_assoc s.pc 1 1⟩
  · have ha : hiByte (s.push16 (wordOf s.regs.a s.flags.pack)).popValue = s.regs.a := by
      rw [hvalue, hiByte_wordOf]
    exact congrArg (Regs.set s.regs .a) ha
  · have hflags : loByte (s.push16 (wordOf s.regs.a s.flags.pack)).popValue = s.flags.pack := by
      rw [hvalue, loByte_wordOf]
    exact (congrArg Flags.unpack hflags).trans s.flags.unpack_pack

/-- Settles O45: a pop after a push reads what was pushed. -/
theorem pushThenPopRestores : Obligations.PushThenPopRestores := by
  unfold Obligations.PushThenPopRestores
  intro s
  exact List.forall_mem_cons.2 ⟨⟨_, rfl, s.pop_push_restored (rp := .bc) (by decide)⟩,
    List.forall_mem_cons.2 ⟨⟨_, rfl, s.pop_push_restored (rp := .de) (by decide)⟩,
      List.forall_mem_cons.2 ⟨⟨_, rfl, s.pop_push_restored (rp := .hl) (by decide)⟩,
        List.forall_mem_singleton.2 (exec_popPSW_after_pushPSW s)⟩⟩⟩

/-- A return pops what the call before it pushed. -/
theorem State.returnToCaller_callTo (s : State) (ret target : Word) :
    (s.callTo ret target).returnToCaller.pc = ret ∧ (s.callTo ret target).returnToCaller.sp = s.sp := by
  have hvalue : (s.callTo ret target).popValue = ret := s.popValue_push16 ret
  rw [State.returnToCaller, State.setPc_pc, State.setPc_sp]
  exact ⟨hvalue, s.popStack_push16_sp ret⟩

/-- Settles O52: RET pops the return address that CALL pushed; neither writes a register, a flag or INTE. -/
theorem callThenRetReturns : Obligations.CallThenRetReturns := by
  unfold Obligations.CallThenRetReturns
  intro s target
  obtain ⟨hpc, hsp⟩ := s.returnToCaller_callTo (s.pc + 3) target
  exact ⟨(s.callTo (s.pc + 3) target).returnToCaller, rfl, hpc, hsp, rfl, rfl, rfl⟩

end Sys2Proof.Machine
end

section
/-! PROOFS. The corner cases of the rotates (spec 42 R214 to R217): with the bits read round a ring, a rotate of the
machine turns the ring, and a ring turned by a multiple of its length is the same ring. -/

namespace Sys2Proof.Machine

/-! ### Bytes as rings of bits -/

/-- The eight bits of a byte, read round and round. -/
def bitRing (a : Byte) (i : Nat) : Bool := a.getLsbD (i % 8)

/-- The bits of A and then CY, which the rotates through the carry move round. -/
def carryRing (x : Byte × Bool) (i : Nat) : Bool := if i % 9 = 8 then x.2 else x.1.getLsbD (i % 9)

theorem bitRing_period (a : Byte) (i k : Nat) : bitRing a (i + 8 * k) = bitRing a i := by
  rw [bitRing, Nat.add_mul_mod_self_left, bitRing]

theorem carryRing_period (x : Byte × Bool) (i k : Nat) : carryRing x (i + 9 * k) = carryRing x i := by
  rw [carryRing, Nat.add_mul_mod_self_left, carryRing]

theorem carryRing_bit (x : Byte × Bool) {i j : Nat} (h : i % 9 = j) (hj : j < 8) : carryRing x i = x.1.getLsbD j := by
  rw [carryRing, if_neg (by omega), h]

theorem carryRing_cy (x : Byte × Bool) {i : Nat} (h : i % 9 = 8) : carryRing x i = x.2 := if_pos h

theorem eq_of_bitRing {a b : Byte} (h : ∀ i, bitRing a i = bitRing b i) : a = b := by
  refine BitVec.eq_of_getLsbD_eq fun i hi => ?_
  have hbit := h i
  rwa [bitRing, bitRing, Nat.mod_eq_of_lt hi] at hbit

theorem eq_of_carryRing {x y : Byte × Bool} (h : ∀ i, carryRing x i = carryRing y i) : x = y := by
  refine Prod.ext (BitVec.eq_of_getLsbD_eq fun i hi => ?_) (h 8)
  have hmod : i % 9 = i := Nat.mod_eq_of_lt (Nat.lt_succ_of_lt hi)
  rw [← carryRing_bit x hmod hi, ← carryRing_bit y hmod hi, h]

/-! ### A rotate turns the ring -/

theorem bitRing_rlc8 (a : Byte) (i : Nat) : bitRing (rlc8 a).1 i = bitRing a (i + 7) := by
  obtain ⟨hmoved, hfeed, -⟩ := ral8_spec a (a.getLsbD 7)
  rw [rlc8_eq_ral8, bitRing, bitRing]
  cases hi : i % 8 with
  | zero => rw [hfeed, show (i + 7) % 8 = 7 by omega]
  | succ k => rw [hmoved k (by omega), show (i + 7) % 8 = k by omega]

theorem bitRing_rrc8 (a : Byte) (i : Nat) : bitRing (rrc8 a).1 i = bitRing a (i + 1) := by
  obtain ⟨hmoved, hfeed, -⟩ := rar8_spec a (a.getLsbD 0)
  rw [rrc8_eq_rar8, bitRing, bitRing]
  by_cases hi : i % 8 = 7
  · rw [hi, hfeed, show (i + 1) % 8 = 0 by omega]
  · rw [hmoved (i % 8) (by omega), show (i + 1) % 8 = i % 8 + 1 by omega]

theorem carryRing_ral8 (a : Byte) (cy : Bool) (i : Nat) : carryRing (ral8 a cy) i = carryRing (a, cy) (i + 8) := by
  obtain ⟨hmoved, hfeed, hout⟩ := ral8_spec a cy
  by_cases hcy : i % 9 = 8
  · rw [carryRing_cy _ hcy, hout, carryRing_bit (a, cy) (show (i + 8) % 9 = 7 by omega) (by omega)]
  cases hi : i % 9 with
  | zero => rw [carryRing_bit _ hi (by omega), hfeed, carryRing_cy (a, cy) (show (i + 8) % 9 = 8 by omega)]
  | succ k =>
    rw [carryRing_bit _ hi (by omega), hmoved k (by omega),
      carryRing_bit (a, cy) (show (i + 8) % 9 = k by omega) (by omega)]

theorem carryRing_rar8 (a : Byte) (cy : Bool) (i : Nat) : carryRing (rar8 a cy) i = carryRing (a, cy) (i + 1) := by
  obtain ⟨hmoved, hfeed, hout⟩ := rar8_spec a cy
  by_cases hcy : i % 9 = 8
  · rw [carryRing_cy _ hcy, hout, carryRing_bit (a, cy) (show (i + 1) % 9 = 0 by omega) (by omega)]
  by_cases hi : i % 9 = 7
  · rw [carryRing_bit _ hi (by omega), hfeed, carryRing_cy (a, cy) (show (i + 1) % 9 = 8 by omega)]
  · rw [carryRing_bit _ rfl (show i % 9 < 8 by omega), hmoved (i % 9) (by omega),
      carryRing_bit (a, cy) (show (i + 1) % 9 = i % 9 + 1 by omega) (by omega)]

theorem rar8_ral8 (a : Byte) (cy : Bool) : rar8 (ral8 a cy).1 (ral8 a cy).2 = (a, cy) := by
  refine eq_of_carryRing fun i => ?_
  rw [carryRing_rar8, carryRing_ral8]
  exact carryRing_period (a, cy) i 1

/-! ### Rotates in a row -/

/-- `n` rotates that each turn a ring read from A and CY by `k` turn it by `n * k`. -/
theorem execAll_replicate_rotate {i : Instr} {f : State → Byte × Bool} {ring : Byte × Bool → Nat → Bool} {k : Nat}
    (hexec : ∀ s, exec i s = .next (s.rotate (f s)))
    (hring : ∀ s j, ring (f s) j = ring (s.regs.a, s.flags.cy) (j + k)) (n : Nat) (s : State) :
    ∃ t, execAll (List.replicate n i) s = .next t ∧
      ∀ j, ring (t.regs.a, t.flags.cy) j = ring (s.regs.a, s.flags.cy) (j + n * k) := by
  induction n generalizing s with
  | zero => exact ⟨s, rfl, fun j => by rw [Nat.zero_mul, Nat.add_zero]⟩
  | succ n ih =>
    obtain ⟨t, hrest, hturned⟩ := ih (s.rotate (f s))
    refine ⟨t, ?_, fun j => ?_⟩
    · rw [List.replicate_succ, execAll, hexec]
      exact hrest
    · rw [hturned, Nat.succ_mul, ← Nat.add_assoc]
      exact hring s (j + n * k)

/-- Eight rotates of the eight bits of A restore it. -/
theorem execAll_eight_rotates {i : Instr} {f : State → Byte × Bool} {k : Nat}
    (hexec : ∀ s, exec i s = .next (s.rotate (f s))) (hring : ∀ s j, bitRing (f s).1 j = bitRing s.regs.a (j + k))
    (s : State) : ∃ t, execAll (List.replicate 8 i) s = .next t ∧ t.regs.a = s.regs.a := by
  obtain ⟨t, hrun, hturned⟩ := execAll_replicate_rotate (ring := fun x => bitRing x.1) hexec hring 8 s
  exact ⟨t, hrun, eq_of_bitRing fun j => (hturned j).trans (bitRing_period s.regs.a j k)⟩

/-- Nine rotates of the nine bits of A and CY restore both. -/
theorem execAll_nine_rotates {i : Instr} {f : State → Byte × Bool} {k : Nat}
    (hexec : ∀ s, exec i s = .next (s.rotate (f s)))
    (hring : ∀ s j, carryRing (f s) j = carryRing (s.regs.a, s.flags.cy) (j + k)) (s : State) :
    ∃ t, execAll (List.replicate 9 i) s = .next t ∧ t.regs.a = s.regs.a ∧ t.flags.cy = s.flags.cy := by
  obtain ⟨t, hrun, hturned⟩ := execAll_replicate_rotate hexec hring 9 s
  have hsame : (t.regs.a, t.flags.cy) = (s.regs.a, s.flags.cy) :=
    eq_of_carryRing fun j => (hturned j).trans (carryRing_period _ j k)
  exact ⟨t, hrun, congrArg Prod.fst hsame, congrArg Prod.snd hsame⟩

/-- Settles O39: each rotate turns the ring of eight or nine bits, and RAR turns back what RAL turned. -/
theorem rotatesAreCyclic : Obligations.RotatesAreCyclic := by
  unfold Obligations.RotatesAreCyclic
  intro s
  refine ⟨execAll_eight_rotates exec_rlc (fun s => bitRing_rlc8 s.regs.a) s,
    execAll_eight_rotates exec_rrc (fun s => bitRing_rrc8 s.regs.a) s,
    execAll_nine_rotates exec_ral (fun s => carryRing_ral8 s.regs.a s.flags.cy) s,
    execAll_nine_rotates exec_rar (fun s => carryRing_rar8 s.regs.a s.flags.cy) s, _, rfl, ?_, ?_⟩
  · exact congrArg (fun r => s.regs.set .a r.1) (rar8_ral8 s.regs.a s.flags.cy)
  · exact congrArg (fun r => { s.flags with cy := r.2 }) (rar8_ral8 s.regs.a s.flags.cy)

end Sys2Proof.Machine
end

section
/-! PROOFS. Decimal adjust (spec 42 R218, decision D9; 95 E4): the two corrections in numbers, and what they make of the
binary sum of two BCD bytes. -/

namespace Sys2Proof.Machine

/-- What stands after the low correction, exactly. -/
def daaMid (a : Byte) (ac : Bool) : Nat := if a.toNat % 16 > 9 ∨ ac = true then a.toNat + 6 else a.toNat

/-- daa8 (R218) in numbers. -/
theorem daa8_spec (a : Byte) (ac cy : Bool) :
    (daa8 a ac cy).value.toNat =
      (if daaMid a ac / 16 > 9 ∨ cy = true then daaMid a ac + 96 else daaMid a ac) % 256 ∧
    (daa8 a ac cy).cy = decide (daaMid a ac / 16 > 9 ∨ cy = true) ∧
    (daa8 a ac cy).ac = decide ((a.toNat % 16 > 9 ∨ ac = true) ∧ a.toNat % 16 + 6 > 15) := by
  have hlow : (decide (a.toNat % 16 > 9) || ac) = decide (a.toNat % 16 > 9 ∨ ac = true) := by
    rw [Bool.decide_or, Bool.decide_eq_true]
  have hhigh : (decide (daaMid a ac / 16 > 9) || cy) = decide (daaMid a ac / 16 > 9 ∨ cy = true) := by
    rw [Bool.decide_or, Bool.decide_eq_true]
  have hmid : (if decide (a.toNat % 16 > 9) || ac then a.toNat + 0x06 else a.toNat) = daaMid a ac := by
    simp only [hlow, decide_eq_true_eq, daaMid]
  simp only [daa8, lowNibble_eq, hmid, hhigh]
  refine ⟨?_, ?_, ?_⟩
  · simp only [BitVec.toNat_ofNat, decide_eq_true_eq]
  · cases cy <;> simp
  · rw [hlow, Bool.decide_and]

theorem exec_daa (s : State) :
    exec .daa s = .next (s.accumulate (daa8 s.regs.a s.flags.ac s.flags.cy) 1) := rfl

/-- Settles O40: the intermediate is what stands after the low correction. -/
theorem daaCorrectsNibbles : Obligations.DaaCorrectsNibbles := by
  unfold Obligations.DaaCorrectsNibbles
  intro s
  obtain ⟨t, hexec, hvalue, hzsp, hcy, hac, hpc, hframe⟩ :=
    completes_of_accumulate (exec_daa s) (daa8_spec s.regs.a s.flags.ac s.flags.cy)
  exact ⟨rfl, t, hexec, _, rfl, hvalue, hcy, hac, hzsp, hpc, hframe⟩

theorem toNat_bcd {n : Nat} (hn : n < 100) : (bcd n).toNat = n / 10 * 16 + n % 10 := by
  rw [bcd, BitVec.toNat_ofNat]
  omega

/-- The adder's answer for two BCD bytes, by the sums of their tens and of their units. -/
theorem add8_bcd {m n : Nat} (hm : m < 100) (hn : n < 100) (cin : Bool) :
    (add8 (bcd m) (bcd n) cin).value.toNat =
      ((m / 10 + n / 10) * 16 + (m % 10 + n % 10 + cin.toNat)) % 256 ∧
    (add8 (bcd m) (bcd n) cin).cy = decide ((m / 10 + n / 10) * 16 + (m % 10 + n % 10 + cin.toNat) > 255) ∧
    (add8 (bcd m) (bcd n) cin).ac = decide (m % 10 + n % 10 + cin.toNat > 15) := by
  obtain ⟨hvalue, hcy, hac⟩ := add8_spec (bcd m) (bcd n) cin
  have hsum : (bcd m).toNat + (bcd n).toNat + cin.toNat =
      (m / 10 + n / 10) * 16 + (m % 10 + n % 10 + cin.toNat) := by
    rw [toNat_bcd hm, toNat_bcd hn]
    omega
  have hhalf : (bcd m).toNat % 16 + (bcd n).toNat % 16 = m % 10 + n % 10 := by
    rw [toNat_bcd hm, toNat_bcd hn]
    omega
  rw [hsum] at hvalue hcy
  rw [hhalf] at hac
  exact ⟨hvalue, hcy, hac⟩

/-- The two corrections, where they apply, turn the sum of tens and units at 16 to the ten into the two digits of their
decimal sum. -/
theorem corrected_bcd_sum {tens units : Nat} (htens : tens ≤ 18) (hunits : units ≤ 19) :
    (if tens * 10 + units ≥ 100 then
        (if units > 9 then (tens * 16 + units) % 256 + 6 else (tens * 16 + units) % 256) + 96
      else if units > 9 then (tens * 16 + units) % 256 + 6 else (tens * 16 + units) % 256) % 256 =
    (tens * 10 + units) % 100 / 10 * 16 + (tens * 10 + units) % 100 % 10 := by
  have hdecimal : (tens * 10 + units) % 100 =
      if tens * 10 + units ≥ 100 then tens * 10 + units - 100 else tens * 10 + units := by
    split <;> omega
  rw [hdecimal]
  by_cases hhigh : tens * 10 + units ≥ 100 <;> by_cases hlow : units > 9
  · rw [if_pos hhigh, if_pos hhigh, if_pos hlow]
    omega
  · rw [if_pos hhigh, if_pos hhigh, if_neg hlow]
    omega
  · rw [if_neg hhigh, if_neg hhigh, if_pos hlow]
    omega
  · rw [if_neg hhigh, if_neg hhigh, if_neg hlow]
    omega

/-- The corrections of a binary sum of BCD bytes: the low one applies when the decimal units carry, the high one when
the decimal sum does, and the result is the BCD byte of that sum. -/
theorem daa8_of_bcd_sum {res : AluResult} {tens units : Nat} (htens : tens ≤ 18) (hunits : units ≤ 19)
    (hvalue : res.value.toNat = (tens * 16 + units) % 256) (hcy : res.cy = decide (tens * 16 + units > 255))
    (hac : res.ac = decide (units > 15)) :
    (daa8 res.value res.ac res.cy).value = bcd ((tens * 10 + units) % 100) ∧
    (daa8 res.value res.ac res.cy).cy = decide (tens * 10 + units ≥ 100) := by
  have hlow : (res.value.toNat % 16 > 9 ∨ res.ac = true) ↔ units > 9 := by
    rw [hvalue, hac, decide_eq_true_eq]
    omega
  have hmid : daaMid res.value res.ac =
      if units > 9 then (tens * 16 + units) % 256 + 6 else (tens * 16 + units) % 256 := by
    simp only [daaMid, hlow]
    rw [hvalue]
  have hhigh : (daaMid res.value res.ac / 16 > 9 ∨ res.cy = true) ↔ tens * 10 + units ≥ 100 := by
    rw [hmid, hcy, decide_eq_true_eq]
    split <;> omega
  obtain ⟨hvalue', hcy', -⟩ := daa8_spec res.value res.ac res.cy
  refine ⟨BitVec.eq_of_toNat_eq ?_, by rw [hcy', decide_eq_decide, hhigh]⟩
  rw [hvalue', toNat_bcd (Nat.mod_lt _ (by decide))]
  simp only [hhigh]
  rw [hmid]
  exact corrected_bcd_sum htens hunits

/-- The law of 95 E4: what DAA makes of the adder's answer for two BCD bytes is their decimal sum. -/
theorem daa8_add8_bcd {m n : Nat} (hm : m < 100) (hn : n < 100) {a b : Byte} (ha : a = bcd m) (hb : b = bcd n)
    (cin : Bool) :
    (daa8 (add8 a b cin).value (add8 a b cin).ac (add8 a b cin).cy).value = bcd ((m + n + cin.toNat) % 100) ∧
    (daa8 (add8 a b cin).value (add8 a b cin).ac (add8 a b cin).cy).cy = decide (m + n + cin.toNat ≥ 100) := by
  subst ha hb
  have hcin := toNat_bool_le cin
  have hsum : (m / 10 + n / 10) * 10 + (m % 10 + n % 10 + cin.toNat) = m + n + cin.toNat := by omega
  obtain ⟨hvalue, hcy, hac⟩ := add8_bcd hm hn cin
  rw [← hsum]
  exact daa8_of_bcd_sum (by omega) (by omega) hvalue hcy hac

theorem exec_add_then_daa (x : Src) (s : State) : execAll [Forms.add x, .daa] s =
    .next ((s.add x).accumulate (daa8 (s.add x).regs.a (s.add x).flags.ac (s.add x).flags.cy) 1) := by
  rw [execAll, exec_add]
  rfl

theorem exec_adc_then_daa (x : Src) (s : State) : execAll [Forms.adc x, .daa] s =
    .next ((s.adc x).accumulate (daa8 (s.adc x).regs.a (s.adc x).flags.ac (s.adc x).flags.cy) 1) := by
  rw [execAll, exec_adc]
  rfl

/-- Settles O41: DAA corrects what the adder answers, with carry-in 0 for ADD and CY for ADC. -/
theorem daaGivesBcdSum : Obligations.DaaGivesBcdSum := by
  unfold Obligations.DaaGivesBcdSum
  intro s x m n hm hn ha hx
  have hcorrected := daa8_add8_bcd hm hn ha hx
  exact ⟨⟨_, exec_add_then_daa x s, hcorrected false⟩, _, exec_adc_then_daa x s, hcorrected s.flags.cy⟩

end Sys2Proof.Machine
end

section
/-! PROOFS. HLT and EI (spec 45 R321, R324) and two requests at one boundary (60 R412, R414): a delivery is that of
`deliveryEntersTheVector`, which leaves INTE 0. -/

namespace Sys2Proof.Machine

theorem State.setStatus_frame (s : State) (v : Status) : Frame s (s.setStatus v) [.status] [] := by
  refine ⟨fun p hp => ?_, fun _ _ => rfl⟩
  cases p with
  | status => exact absurd (List.mem_singleton.2 rfl) hp
  | reg | sp | flag | inte | env => rfl

theorem inte_of_exec_ei {s t : State} (h : exec .ei s = .next t) : t.inte = true := by
  rw [exec_ei] at h
  injection h with h
  rw [← h]
  rfl

/-- Settles O54: HLT writes the status and EI the latch; after EI the core stands at INTE 1, where a request is
delivered. -/
theorem hltAndEi : Obligations.HltAndEi := by
  unfold Obligations.HltAndEi
  intro s
  refine ⟨⟨rfl, _, exec_hlt s, rfl, rfl, (s.setPc_frame (s.pc + 1)).trans (State.setStatus_frame _ .halted)⟩,
    ⟨rfl, _, exec_ei s, rfl, rfl, (s.setInte_frame true).advance 1⟩, fun t v hei hrunning hrequest => ?_⟩
  obtain ⟨u, hstep, hpc, hinte, -⟩ := deliveryEntersTheVector t v hrunning hrequest (inte_of_exec_ei hei)
  exact ⟨u, hstep, hpc, hinte⟩

/-- Settles O59: the first delivery clears INTE and leaves the environment to present the second request, which is
dropped. -/
theorem requestsWithoutInteAreDropped : Obligations.RequestsWithoutInteAreDropped := by
  unfold Obligations.RequestsWithoutInteAreDropped
  refine ⟨fun s v => step_request_of_inte_false, fun s v w hrunning hfirst hsecond hinte => ?_⟩
  obtain ⟨t, hstep, hpc, hcleared, -, -, -, henv, hplaces, -⟩ := deliveryEntersTheVector s v hrunning hfirst hinte
  have hkept : t.status = s.status := hplaces .status (by decide)
  have hstatus : t.status = .running := hkept.trans hrunning
  have hdropped := step_request_of_inte_false hstatus (henv ▸ hsecond) hcleared
  exact ⟨t, t.presented, hstep, hdropped, hstatus, rfl, hpc, rfl, rfl, hcleared, congrArg Env.spent henv⟩

end Sys2Proof.Machine
end

section
/-! PROOFS. Input and output (spec 45 R322, R323; 60 R440 to R446): IN is one answer of the port and the write of A, OUT
is one act of the bridge; each function behind them by its cases. -/

namespace Sys2Proof.Machine

/-! ### What a port answers -/

theorem PortBridge.shiftWindow_toNat (b : PortBridge) :
    b.shiftWindow.toNat = b.shiftReg.toNat / 2 ^ (8 - b.shiftOffset.toNat) % 256 := by
  rw [PortBridge.shiftWindow, loByte_eq, BitVec.toNat_setWidth, BitVec.toNat_ushiftRight, Nat.shiftRight_eq_div_pow]

/-- A port other than 1, 2 and 3 is settled by no bridge (R446). -/
theorem PortBridge.input_of_other (b : PortBridge) {port : Byte} (h : port ≠ 1 ∧ port ≠ 2 ∧ port ≠ 3) :
    b.input port = none := by
  obtain ⟨h1, h2, h3⟩ := h
  rw [PortBridge.input, if_neg h1, if_neg h2, if_neg h3]

theorem Env.settledInput_of_bridge {e : Env} {b : PortBridge} (h : e.bridge = some b) (port : Byte) :
    e.settledInput port = b.input port := by
  rw [Env.settledInput, h]

theorem Env.settledInput_eq_none {e : Env} {port : Byte}
    (h : e.bridge = none ∨ (port ≠ 1 ∧ port ≠ 2 ∧ port ≠ 3)) : e.settledInput port = none := by
  obtain hnone | hother := h
  · rw [Env.settledInput, hnone]
  · cases hbridge : e.bridge with
    | none => rw [Env.settledInput, hbridge]
    | some b => rw [Env.settledInput_of_bridge hbridge, b.input_of_other hother]

theorem State.ioRead_of_settled {s : State} {port v : Byte} (h : s.env.settledInput port = some v) :
    s.ioReadValue port = v ∧ s.ioReadState port = s := by
  obtain ⟨w, hw, hvalue, hstate⟩ | ⟨hnone, -, -⟩ := s.ioRead_spec port
  · obtain rfl : w = v := Option.some.inj (hw.symm.trans h)
    exact ⟨hvalue, hstate⟩
  · rw [h] at hnone
    cases hnone

theorem State.ioRead_of_free {s : State} {port : Byte} (h : s.env.settledInput port = none) :
    s.ioReadValue port = Config.ioIn s.env port ∧
    s.ioReadState port = { s with env := { s.env with draws := s.env.draws + 1 } } := by
  obtain ⟨w, hw, -, -⟩ | ⟨-, hvalue, hstate⟩ := s.ioRead_spec port
  · rw [h] at hw
    cases hw
  · exact ⟨hvalue, hstate⟩

theorem State.ioReadState_frame (s : State) (port : Byte) : Frame s (s.ioReadState port) [.env] [] := by
  rw [State.ioReadState_eq]
  exact s.setEnv_frame _

/-! ### IN -/

theorem exec_inPort (port : Byte) (s : State) :
    exec (.inPort port) s = .next (((s.ioReadState port).setReg .a (s.ioReadValue port)).advance 2) := rfl

/-- Settles O55: A takes the port's answer, and the environment is what the answer left of it. -/
theorem inReadsThePort : Obligations.InReadsThePort := by
  unfold Obligations.InReadsThePort
  intro s port
  have hsettled {b : PortBridge} {v : Byte} (hbridge : s.env.bridge = some b) (hinput : b.input port = some v) :
      s.ioReadValue port = v ∧ (s.ioReadState port).env = s.env := by
    obtain ⟨hvalue, hstate⟩ := State.ioRead_of_settled ((Env.settledInput_of_bridge hbridge port).trans hinput)
    exact ⟨hvalue, congrArg State.env hstate⟩
  have hpc : (s.ioReadState port).pc = s.pc := by rw [State.ioReadState_eq, State.setEnv_pc]
  have hframe := (s.ioReadState_frame port).trans (State.setReg_frame _ .a (s.ioReadValue port))
  refine ⟨rfl, _, exec_inPort port s, congrArg (· + 2) hpc, (hframe.mono (by decide) (by decide)).advance 2, ?_, ?_,
    ?_, fun hfree => ?_⟩
  · rintro b hbridge rfl
    exact hsettled hbridge rfl
  · rintro b hbridge rfl
    exact hsettled hbridge rfl
  · rintro b hbridge rfl
    obtain ⟨hvalue, henv⟩ := hsettled hbridge rfl
    exact ⟨(congrArg BitVec.toNat hvalue).trans b.shiftWindow_toNat, henv⟩
  · obtain ⟨hvalue, hstate⟩ := State.ioRead_of_free (Env.settledInput_eq_none hfree)
    exact ⟨hvalue, congrArg State.env hstate⟩

/-! ### The sound map and the sounds of a write -/

theorem portSounds_nodup (port : Byte) : (portSounds port).Nodup := by
  unfold portSounds
  split
  · decide
  · split <;> decide

theorem portSounds_of_other {port : Byte} (h3 : port ≠ 3) (h5 : port ≠ 5) : portSounds port = [] := by
  rw [portSounds, if_neg h3, if_neg h5]

theorem soundMap_of_other {port : Byte} (h3 : port ≠ 3) (h5 : port ≠ 5) : soundMap port = [] := by
  obtain ⟨hsounds, -⟩ := soundMap_spec port
  exact List.map_eq_nil_iff.1 (hsounds.trans (portSounds_of_other h3 h5))

/-- No sound is played twice by one write: those triggered are among the sounds of the port, in their order. -/
theorem triggeredSounds_nodup (port v : Byte) : (triggeredSounds port v).Nodup := by
  obtain ⟨hsounds, -⟩ := soundMap_spec port
  have hsublist : (triggeredSounds port v).Sublist ((soundMap port).map Prod.snd) := List.filter_sublist.map Prod.snd
  rw [hsounds] at hsublist
  exact (portSounds_nodup port).sublist hsublist

/-! ### What the bridge does with a byte -/

theorem toNat_wordOf (h l : Byte) : (wordOf h l).toNat = h.toNat * 256 + l.toNat := by
  rw [wordOf, BitVec.toNat_append, ← Nat.shiftLeft_add_eq_or_of_lt l.isLt, Nat.shiftLeft_eq]

theorem toNat_hiByte (v : Word) : (hiByte v).toNat = v.toNat / 256 := by
  rw [hiByte_eq, BitVec.toNat_setWidth, BitVec.toNat_ushiftRight, Nat.shiftRight_eq_div_pow]
  omega

theorem PortBridge.output_latches (b : PortBridge) (port v : Byte) :
    (b.output port v).in1 = b.in1 ∧ (b.output port v).in2 = b.in2 := by
  unfold PortBridge.output
  split
  · exact ⟨rfl, rfl⟩
  · split <;> exact ⟨rfl, rfl⟩

theorem PortBridge.output_shiftOffset (b : PortBridge) (port v : Byte) :
    (b.output port v).shiftOffset.toNat = if port = 2 then v.toNat % 8 else b.shiftOffset.toNat := by
  unfold PortBridge.output
  split
  · exact BitVec.toNat_setWidth 3 v
  · split <;> rfl

theorem PortBridge.output_shiftReg (b : PortBridge) (port v : Byte) :
    (b.output port v).shiftReg.toNat =
      if port = 4 then v.toNat * 256 + b.shiftReg.toNat / 256 else b.shiftReg.toNat := by
  unfold PortBridge.output
  by_cases h2 : port = 2
  · subst h2
    rfl
  · rw [if_neg h2]
    split
    · exact (toNat_wordOf _ _).trans (congrArg _ (toNat_hiByte b.shiftReg))
    · rfl

/-! ### OUT -/

theorem State.ioWrite_env_of_core {s : State} (h : s.env.bridge = none) (port v : Byte) :
    (s.ioWrite port v).env = { s.env with outputs := s.env.outputs ++ [(port, v)] } := by
  rw [State.ioWrite, h]
  rfl

theorem State.ioWrite_env_of_bridge {s : State} {b : PortBridge} (h : s.env.bridge = some b) (port v : Byte) :
    (s.ioWrite port v).env =
      { s.env with
        outputs := s.env.outputs ++ [(port, v)]
        bridge := some (b.output port v)
        plays := s.env.plays ++ s.env.playedSounds port v } := by
  rw [State.ioWrite, h]
  rfl

/-- The pair is delivered, and beside the record of outputs only the bridge and the record of sounds can change. -/
theorem State.ioWrite_env (s : State) (port v : Byte) :
    (s.ioWrite port v).env.outputs = s.env.outputs ++ [(port, v)] ∧
    (s.ioWrite port v).env.events = s.env.events ∧ (s.ioWrite port v).env.later = s.env.later ∧
    (s.ioWrite port v).env.draws = s.env.draws ∧ (s.ioWrite port v).env.scheduler = s.env.scheduler ∧
    (s.ioWrite port v).env.rendered = s.env.rendered := by
  unfold State.ioWrite
  cases s.env.bridge <;> exact ⟨rfl, rfl, rfl, rfl, rfl, rfl⟩

theorem exec_outPort (port : Byte) (s : State) :
    exec (.outPort port) s = .next ((s.ioWrite port s.regs.a).advance 2) := rfl

/-- Settles O56: the write delivers the pair, the bridge acts on it by its port, and the sounds played are those
triggered, in some order. -/
theorem outWritesThePort : Obligations.OutWritesThePort := by
  unfold Obligations.OutWritesThePort
  constructor
  · have hsounds (port : Byte) : (soundMap port).map Prod.snd = portSounds port := (soundMap_spec port).1
    exact ⟨hsounds 3, hsounds 5, fun port => soundMap_of_other, fun port => (soundMap_spec port).2⟩
  intro s port
  obtain ⟨houtputs, hevents, hlater, hdraws, hscheduler, hrendered⟩ := s.ioWrite_env port s.regs.a
  have hstate := s.ioWrite_spec port s.regs.a
  have hframe : Frame s (s.ioWrite port s.regs.a) [.env] [] := by
    rw [hstate]
    exact s.setEnv_frame _
  refine ⟨rfl, _, exec_outPort port s, ?_, hframe.advance 2, houtputs, hevents, hlater, hdraws, hscheduler,
    hrendered, fun hcore => ?_, fun b hbridge => ?_⟩
  · have hpc : (s.ioWrite port s.regs.a).pc = s.pc := by rw [hstate]
    exact congrArg (· + 2) hpc
  · have h := State.ioWrite_env_of_core hcore port s.regs.a
    have hplays : (s.ioWrite port s.regs.a).env.plays = s.env.plays := by rw [h]
    exact ⟨(congrArg Env.bridge h).trans hcore, hplays⟩
  · have h := State.ioWrite_env_of_bridge hbridge port s.regs.a
    obtain ⟨hin1, hin2⟩ := b.output_latches port s.regs.a
    obtain ⟨hperm, hmem⟩ := s.env.playedSounds_spec port s.regs.a
    exact ⟨_, _, congrArg Env.bridge h, congrArg Env.plays h, hin1, hin2, b.output_shiftOffset port s.regs.a,
      b.output_shiftReg port s.regs.a, hperm.nodup_iff.2 (triggeredSounds_nodup port s.regs.a), hmem⟩

end Sys2Proof.Machine
end

section
/-! PROOFS. The host's acts and the scheduler (spec 60 R436, R447, R453): each is one write of the environment, and the
scheduler's functions go by whether the deadline is due. -/

namespace Sys2Proof.Machine

/-! ### The scheduler -/

theorem Scheduler.due_iff (c : Scheduler) : c.due = true ↔ c.deadline ≤ c.clock := decide_eq_true_iff

theorem Scheduler.after_of_due {c : Scheduler} (h : c.due = true) :
    c.after = { c with nextVector := c.nextVector.other, deadline := c.deadline + 8 } := if_pos h

theorem Scheduler.after_of_not_due {c : Scheduler} (h : ¬ c.due = true) : c.after = c := if_neg h

@[simp] theorem Scheduler.after_clock (c : Scheduler) : c.after.clock = c.clock := by
  unfold Scheduler.after
  split <;> rfl

theorem VideoVector.other_ne (v : VideoVector) : v.other ≠ v := by cases v <;> decide

theorem Scheduler.interruptEvents_of_due {c : Scheduler} (h : c.due = true) :
    c.interruptEvents = if c.nextVector = .midScreen then [.request 1] else [.request 2, .render] := by
  rw [Scheduler.interruptEvents, if_pos h]
  cases c.nextVector <;> rfl

theorem Scheduler.interruptEvents_of_not_due {c : Scheduler} (h : ¬ c.due = true) : c.interruptEvents = [] := if_neg h

/-! ### The acts as steps -/

theorem Env.writeIn1_bridge {e : Env} {b : PortBridge} (h : e.bridge = some b) (v : Byte) :
    (e.writeIn1 v).bridge = some { b with in1 := v } := by
  rw [Env.writeIn1, h]
  rfl

theorem Env.writeIn2_bridge {e : Env} {b : PortBridge} (h : e.bridge = some b) (v : Byte) :
    (e.writeIn2 v).bridge = some { b with in2 := v } := by
  rw [Env.writeIn2, h]
  rfl

theorem Env.iterate_bridge {e : Env} {b : PortBridge} (h : e.bridge = some b) (x : HostSample) :
    (e.iterate x).bridge = some { b with in1 := x.in1, in2 := x.in2 } :=
  Env.writeIn2_bridge (Env.writeIn1_bridge h x.in1) x.in2

theorem Env.iterate_clock (e : Env) (x : HostSample) :
    (e.iterate x).scheduler.clock = e.scheduler.clock + x.elapsed :=
  (e.scheduler.read x).after_clock

/-- The batch of an iteration and its quit check (R436). -/
theorem Scheduler.iterationEvents_eq (c : Scheduler) (quit : Bool) : c.iterationEvents quit =
    c.interruptEvents ++ List.replicate 100 Event.execute ++ (if quit then [Event.quit] else []) := rfl

/-- An iteration at or past the deadline: the vector's events come first, the vector alternates, the deadline moves. -/
theorem Env.iterate_of_due {e : Env} {x : HostSample} (h : e.scheduler.deadline ≤ e.scheduler.clock + x.elapsed) :
    (e.iterate x).scheduler.deadline = e.scheduler.deadline + 8 ∧
    (e.iterate x).scheduler.nextVector ≠ e.scheduler.nextVector ∧
    (e.iterate x).events =
      (if e.scheduler.nextVector = .midScreen then [Event.request 1] else [Event.request 2, Event.render]) ++
        List.replicate 100 Event.execute ++ (if x.quit then [Event.quit] else []) ++ e.events := by
  have hdue : (e.scheduler.read x).due = true := (Scheduler.due_iff _).2 h
  have hscheduler : (e.iterate x).scheduler = _ := Scheduler.after_of_due hdue
  have hevents := (e.scheduler.read x).iterationEvents_eq x.quit
  rw [Scheduler.interruptEvents_of_due hdue] at hevents
  rw [hscheduler]
  exact ⟨rfl, VideoVector.other_ne _, congrArg (· ++ e.events) hevents⟩

/-- An iteration before the deadline: the batch alone. -/
theorem Env.iterate_of_not_due {e : Env} {x : HostSample}
    (h : ¬ e.scheduler.deadline ≤ e.scheduler.clock + x.elapsed) :
    (e.iterate x).scheduler.deadline = e.scheduler.deadline ∧
    (e.iterate x).scheduler.nextVector = e.scheduler.nextVector ∧
    (e.iterate x).events =
      List.replicate 100 Event.execute ++ (if x.quit then [Event.quit] else []) ++ e.events := by
  have hdue : ¬ (e.scheduler.read x).due = true := mt (Scheduler.due_iff _).1 h
  have hscheduler : (e.iterate x).scheduler = _ := Scheduler.after_of_not_due hdue
  have hevents := (e.scheduler.read x).iterationEvents_eq x.quit
  rw [Scheduler.interruptEvents_of_not_due hdue, List.nil_append] at hevents
  rw [hscheduler]
  exact ⟨rfl, rfl, congrArg (· ++ e.events) hevents⟩

/-- Settles O60: each act is one write of the environment. -/
theorem hostActsChangeOnlyTheEnvironment : Obligations.HostActsChangeOnlyTheEnvironment := by
  unfold Obligations.HostActsChangeOnlyTheEnvironment
  intro s hrunning
  have hstep {e : Event} (he : s.env.presents = e) : step s = s.presented.perform e := by
    rw [step_running hrunning, he]
  have hbridge {b : PortBridge} (h : s.env.bridge = some b) : s.presented.env.bridge = some b :=
    s.env.spent_bridge.trans h
  refine ⟨fun v hv => ⟨_, hstep hv, rfl, rfl, fun b hb => Env.writeIn1_bridge (hbridge hb) v⟩,
    fun v hv => ⟨_, hstep hv, rfl, rfl, fun b hb => Env.writeIn2_bridge (hbridge hb) v⟩,
    fun hrender => hstep hrender, fun hquit => hstep hquit, fun x hx => ?_⟩
  have hclock := s.presented.env.iterate_clock x
  have hscheduler : s.presented.env.scheduler = s.env.scheduler := s.env.spent_scheduler
  have hdue := Env.iterate_of_due (e := s.presented.env) (x := x)
  have hnotDue := Env.iterate_of_not_due (e := s.presented.env) (x := x)
  rw [hscheduler] at hclock hdue hnotDue
  refine ⟨_, hstep hx, rfl, fun b hb => Env.iterate_bridge (hbridge hb) x, rfl, hclock, ?_⟩
  split
  · next h => exact hdue (Nat.le_trans h (Nat.le_of_eq hclock))
  · next h => exact hnotDue fun h' => h (Nat.le_trans h' (Nat.le_of_eq hclock.symm))

end Sys2Proof.Machine
end
